-- ==== Sys2Proof/Word.lean ====
section
/-! DEFINITION. The words of the block: the widths the spec gives its fields (00_scope.md R5, R6), and the words an
instruction is read from, on the RX stream or on a port (30_encoding.md R51, R60, R61). Nothing here computes. -/

namespace Sys2Proof

/-- A byte; the unit of both byte spaces (20_memory.md R35). -/
abbrev Byte := BitVec 8

/-- One bit that the spec treats as a field of a word (the reserved bit `R`, R55). -/
abbrev Bit := BitVec 1

/-- The 24-bit payload length (R5 `LEN_W`). -/
abbrev Len := BitVec 24

/-- The 31-bit stream identifier (R5 `SID_W`; 90_conflicts.md C2). -/
abbrev Sid := BitVec 31

/-- The 32-bit wire word that carries `R` and the identifier, the GOAWAY error code, and the two wide encoder operands. -/
abbrev Word32 := BitVec 32

/-- The header word `H = B0 ‖ ... ‖ B8`, byte 0 in bits 71:64 (R6, R51). -/
abbrev HeaderWord := BitVec 72

/-- The operand bundle `Q` of ENC.HDR and ENCODE (R60). -/
abbrev OperandQ := BitVec 81

/-- The first eight bytes of a GOAWAY payload, `G = P0 ‖ ... ‖ P7` (R56). -/
abbrev GoawayWord := BitVec 64

/-- What the host presents on a port. The port selects the operation: "these operations are selected by the port they are
presented on, not by an opcode" (30_encoding.md R61). The payload of ENCODE stands beside `Q`, not in it (R60). -/
inductive HostWord where
  | encHdr (q : OperandQ)
  | encode (q : OperandQ) (payload : List Byte)
  | decode (h : HeaderWord)
  | typeClassify (t : Byte)
  | flagsTrunc (v : Byte)
  | flagsUnion (ab : BitVec 16)
  | flagsContains (vf : BitVec 16)
  | goawayParse (g : GoawayWord)
  | errcodeDecode (e : Word32)
  | rst (wire : Bit)
  | start (wire : Bit)
  deriving DecidableEq, Repr

/-- The word of one instruction: nine header bytes of the RX stream, or what stands on a port. -/
inductive InstrWord where
  | frame (h : HeaderWord)
  | host (w : HostWord)
  deriving DecidableEq, Repr

end Sys2Proof
end

