-- ==== Sys2Proof/Config.lean ====
section
/-! DEFINITION. The implementation parameters (00_scope.md R5), the fixed byte literals of the host's side
(43_control_and_host.md R124, R126), the one open parameter, and what the environment may do (10_state.md R26). -/

namespace Sys2Proof

/-- HDR_BYTES (R5). -/
def Config.hdrBytes : Nat := 9

/-- MAX_LEN = 2^24 - 1 (R5; 90_conflicts.md C1). -/
def Config.maxLen : Nat := 2 ^ 24 - 1

/-- N_KNOWN_TYPES: type codes 0 to 9 are known (R5). -/
def Config.nKnownTypes : Nat := 10

/-- FLAG_END_STREAM (R5, R54). -/
def Config.flagEndStream : Byte := 0x01#8

/-- FLAG_END_HEADERS (R5, R54). -/
def Config.flagEndHeaders : Byte := 0x04#8

/-- FLAGS_DEFINED_MASK (R5, R83). -/
def Config.flagsDefinedMask : Byte := 0x05#8

/-- N_ERRCODES: error codes 0x0 to 0xd are known (R5, R57). -/
def Config.nErrcodes : Nat := 14

/-- GOAWAY_MIN: the least GOAWAY payload length that can be parsed (R5). -/
def Config.goawayMin : Nat := 8

/-- The 24 bytes of the connection preface (R124). -/
def Config.preface : List Byte :=
  [0x50#8, 0x52#8, 0x49#8, 0x20#8, 0x2A#8, 0x20#8, 0x48#8, 0x54#8, 0x54#8, 0x50#8, 0x2F#8, 0x32#8,
   0x2E#8, 0x30#8, 0x0D#8, 0x0A#8, 0x0D#8, 0x0A#8, 0x53#8, 0x4D#8, 0x0D#8, 0x0A#8, 0x0D#8, 0x0A#8]

/-- The header-field payload of the outbound HEADERS frame (R126). -/
def Config.headerFieldPayload : List Byte := [0x82#8, 0x84#8, 0x86#8]

/-- Style and polarity of the `rst` wire (R5 RESET_STYLE, R160). -/
inductive ResetStyle where
  | synchronousHigh
  | synchronousLow
  | asynchronousHigh
  | asynchronousLow
  deriving DecidableEq, Repr, Inhabited

/-- RESET_STYLE is OPEN: no value is fixed, and "no rule depends on" it (R160; 93 U26; log 19). -/
opaque Config.resetStyle : ResetStyle

/-- What the outside does next: the transport on the RX port, or the host on its ports (10_state.md R26, 43_control_and_host.md
R123; log 2). `txErr = some k` is the transport adapter's `tx_err` during the write in hand, with the draw `k` of 40_encode.md
R74. -/
inductive Input where
  /-- The transport offers the byte of RX at offset `pos` (`rx_valid`, `rx_data`). -/
  | rxByte (b : Byte)
  /-- The transport adapter signals `rx_err` instead of delivering a byte. -/
  | rxErr
  /-- The adapter offers a byte and signals `rx_err` at once (42_dispatch.md R91). -/
  | rxErrByte (b : Byte)
  /-- The host presents a word on a port. -/
  | request (w : HostWord) (txErr : Option Nat)
  /-- The host itself writes the connection preface to the sink (43_control_and_host.md R124). -/
  | preface (txErr : Option Nat)
  /-- The host asserts `rst` at the instant at which `other` happens (60_exceptions.md R150 d; log 27). -/
  | resetWith (other : Input)
  deriving DecidableEq, Repr, Inhabited

/-- The n-th thing an environment does that never stops: a FREE VALUE (10_state.md R26: RX is "an arbitrary byte sequence,
possibly finite, chosen by the environment"; 42_dispatch.md R111; log 26). -/
opaque Config.inputStream : Nat → Input

end Sys2Proof
end

