-- ==== Sys2Proof/Syntax.lean ====
section
/-! DEFINITION. The instructions: one constructor per row of spec/opcode_table.json. A frame's operands are the fields of
its 72-bit header (30_encoding.md R51); the type byte is the constructor, kept raw in the UNKNOWN rows (R53, R105). -/

namespace Sys2Proof

inductive Instr where
  -- the frame vocabulary (format FH72)
  | data (length : Len) (flags : Byte) (r : Bit) (sid : Sid)
  | headers (length : Len) (flags : Byte) (r : Bit) (sid : Sid)
  | priority (length : Len) (flags : Byte) (r : Bit) (sid : Sid)
  | rstStream (length : Len) (flags : Byte) (r : Bit) (sid : Sid)
  | settings (length : Len) (flags : Byte) (r : Bit) (sid : Sid)
  | pushPromise (length : Len) (flags : Byte) (r : Bit) (sid : Sid)
  | ping (length : Len) (flags : Byte) (r : Bit) (sid : Sid)
  | goaway (length : Len) (flags : Byte) (r : Bit) (sid : Sid)
  | windowUpdate (length : Len) (flags : Byte) (r : Bit) (sid : Sid)
  | continuation (length : Len) (flags : Byte) (r : Bit) (sid : Sid)
  | unknown0A (type : Byte) (length : Len) (flags : Byte) (r : Bit) (sid : Sid)
  | unknown0C (type : Byte) (length : Len) (flags : Byte) (r : Bit) (sid : Sid)
  | unknown10 (type : Byte) (length : Len) (flags : Byte) (r : Bit) (sid : Sid)
  | unknown20 (type : Byte) (length : Len) (flags : Byte) (r : Bit) (sid : Sid)
  | unknown40 (type : Byte) (length : Len) (flags : Byte) (r : Bit) (sid : Sid)
  | unknown80 (type : Byte) (length : Len) (flags : Byte) (r : Bit) (sid : Sid)
  -- the host operations
  | encHdr (type : Byte) (flags : Byte) (r : Bit) (sid : Word32) (plen : Word32)
  | encode (type : Byte) (flags : Byte) (r : Bit) (sid : Word32) (plen : Word32) (payload : List Byte)
  | decode (word : HeaderWord)
  | typeClassify (t : Byte)
  | flagsTrunc (v : Byte)
  | flagsUnion (a : Byte) (b : Byte)
  | flagsContains (v : Byte) (f : Byte)
  | goawayParse (word : GoawayWord)
  | errcodeDecode (e : Word32)
  | reset
  | start
  deriving DecidableEq, Repr

/-- The decoded header, the document's FrameHeader (10_state.md R15): `type` is the raw 8-bit code. -/
structure FrameHeader where
  length : Len
  type : Byte
  flags : Byte
  r : Bit
  sid : Sid
  deriving DecidableEq, Repr

end Sys2Proof
end

