-- ==== Sys2Proof/WellFormed.lean ====
section
/-! DEFINITION. Which instructions are well formed: the raw type code of an UNKNOWN row lies in that row's range
(30_encoding.md R53), and the payload of ENCODE has `enc_plen` bytes (R60, 40_encode.md R73). -/

namespace Sys2Proof

/-- A raw type code lies in a row of the opcode table: it agrees with the row's match under the row's mask (R53). -/
def typeInRow (mask value t : Byte) : Bool := t &&& mask == value

def Instr.wf : Instr → Bool
  | .data _ _ _ _ => true
  | .headers _ _ _ _ => true
  | .priority _ _ _ _ => true
  | .rstStream _ _ _ _ => true
  | .settings _ _ _ _ => true
  | .pushPromise _ _ _ _ => true
  | .ping _ _ _ _ => true
  | .goaway _ _ _ _ => true
  | .windowUpdate _ _ _ _ => true
  | .continuation _ _ _ _ => true
  | .unknown0A t _ _ _ _ => typeInRow 0xFE#8 0x0A#8 t
  | .unknown0C t _ _ _ _ => typeInRow 0xFC#8 0x0C#8 t
  | .unknown10 t _ _ _ _ => typeInRow 0xF0#8 0x10#8 t
  | .unknown20 t _ _ _ _ => typeInRow 0xE0#8 0x20#8 t
  | .unknown40 t _ _ _ _ => typeInRow 0xC0#8 0x40#8 t
  | .unknown80 t _ _ _ _ => typeInRow 0x80#8 0x80#8 t
  | .encHdr _ _ _ _ _ => true
  | .encode _ _ _ _ plen payload => payload.length == plen.toNat
  | .decode _ => true
  | .typeClassify _ => true
  | .flagsTrunc _ => true
  | .flagsUnion _ _ => true
  | .flagsContains _ _ => true
  | .goawayParse _ => true
  | .errcodeDecode _ => true
  | .reset => true
  | .start => true

end Sys2Proof
end

