-- ==== Sys2Proof/Decode.lean ====
section
/-! DEFINITION. The decoder, total on every word and on any bytes, and after it the encoder, both written from
30_encoding.md (R51 the header, R53 the type codes, R60 and R61 the operand formats of the ports). -/

namespace Sys2Proof

/-! ### Field assembly (00_scope.md R7, 30_encoding.md R52) -/

/-- `BE24(b0, b1, b2)`: bytes in wire order, the first most significant (R7). -/
def be24 (b0 b1 b2 : Byte) : Len := b0 ++ b1 ++ b2

/-- `BE32(b0, b1, b2, b3)` (R7). -/
def be32 (b0 b1 b2 b3 : Byte) : Word32 := b0 ++ b1 ++ b2 ++ b3

/-- `W[31]`: the reserved bit of a word that carries `R` and an identifier (R52, R55). -/
def reservedBit (w : Word32) : Bit := w.extractLsb' 31 1

/-- `W[30:0]`: the identifier, top bit masked off (R52). -/
def identifier (w : Word32) : Sid := w.extractLsb' 0 31

/-- The nine wire bytes of the header word: byte i is `H[71-8i : 64-8i]` (R6). -/
def headerBytes (w : HeaderWord) : Vector Byte 9 :=
  #v[w.extractLsb' 64 8, w.extractLsb' 56 8, w.extractLsb' 48 8, w.extractLsb' 40 8, w.extractLsb' 32 8,
     w.extractLsb' 24 8, w.extractLsb' 16 8, w.extractLsb' 8 8, w.extractLsb' 0 8]

/-- `DecodeHeader(B[0..8])` (41_decode.md R81). -/
def decodeHeader (b : Vector Byte 9) : FrameHeader :=
  let w := be32 b[5] b[6] b[7] b[8]
  { length := be24 b[0] b[1] b[2]
    type := b[3]
    flags := b[4]
    r := reservedBit w
    sid := identifier w }

/-! ### The opcode map (30_encoding.md R53) -/

/-- The instruction a header selects, by its type byte alone (R53, R58: every header selects one). -/
def instrOfHeader (h : FrameHeader) : Instr :=
  if h.type = 0x00#8 then .data h.length h.flags h.r h.sid
  else if h.type = 0x01#8 then .headers h.length h.flags h.r h.sid
  else if h.type = 0x02#8 then .priority h.length h.flags h.r h.sid
  else if h.type = 0x03#8 then .rstStream h.length h.flags h.r h.sid
  else if h.type = 0x04#8 then .settings h.length h.flags h.r h.sid
  else if h.type = 0x05#8 then .pushPromise h.length h.flags h.r h.sid
  else if h.type = 0x06#8 then .ping h.length h.flags h.r h.sid
  else if h.type = 0x07#8 then .goaway h.length h.flags h.r h.sid
  else if h.type = 0x08#8 then .windowUpdate h.length h.flags h.r h.sid
  else if h.type = 0x09#8 then .continuation h.length h.flags h.r h.sid
  else if typeInRow 0xFE#8 0x0A#8 h.type then .unknown0A h.type h.length h.flags h.r h.sid
  else if typeInRow 0xFC#8 0x0C#8 h.type then .unknown0C h.type h.length h.flags h.r h.sid
  else if typeInRow 0xF0#8 0x10#8 h.type then .unknown10 h.type h.length h.flags h.r h.sid
  else if typeInRow 0xE0#8 0x20#8 h.type then .unknown20 h.type h.length h.flags h.r h.sid
  else if typeInRow 0xC0#8 0x40#8 h.type then .unknown40 h.type h.length h.flags h.r h.sid
  else .unknown80 h.type h.length h.flags h.r h.sid

/-- The header a frame instruction stands for; none for a host operation. -/
def Instr.header : Instr → Option FrameHeader
  | .data l f r s => some ⟨l, 0x00#8, f, r, s⟩
  | .headers l f r s => some ⟨l, 0x01#8, f, r, s⟩
  | .priority l f r s => some ⟨l, 0x02#8, f, r, s⟩
  | .rstStream l f r s => some ⟨l, 0x03#8, f, r, s⟩
  | .settings l f r s => some ⟨l, 0x04#8, f, r, s⟩
  | .pushPromise l f r s => some ⟨l, 0x05#8, f, r, s⟩
  | .ping l f r s => some ⟨l, 0x06#8, f, r, s⟩
  | .goaway l f r s => some ⟨l, 0x07#8, f, r, s⟩
  | .windowUpdate l f r s => some ⟨l, 0x08#8, f, r, s⟩
  | .continuation l f r s => some ⟨l, 0x09#8, f, r, s⟩
  | .unknown0A t l f r s => some ⟨l, t, f, r, s⟩
  | .unknown0C t l f r s => some ⟨l, t, f, r, s⟩
  | .unknown10 t l f r s => some ⟨l, t, f, r, s⟩
  | .unknown20 t l f r s => some ⟨l, t, f, r, s⟩
  | .unknown40 t l f r s => some ⟨l, t, f, r, s⟩
  | .unknown80 t l f r s => some ⟨l, t, f, r, s⟩
  | .encHdr _ _ _ _ _ => none
  | .encode _ _ _ _ _ _ => none
  | .decode _ => none
  | .typeClassify _ => none
  | .flagsTrunc _ => none
  | .flagsUnion _ _ => none
  | .flagsContains _ _ => none
  | .goawayParse _ => none
  | .errcodeDecode _ => none
  | .reset => none
  | .start => none

/-! ### The decoder -/

/-- Why a word stands for no instruction. -/
inductive DecodeError where
  /-- Fewer than nine bytes: "Fewer than nine bytes are not a header" (41_decode.md R80). -/
  | shortHeader
  /-- The command's own wire is not asserted, so no command is given (30_encoding.md R61). -/
  | wireNotAsserted
  deriving DecidableEq, Repr

/-- What a port's word asks for (30_encoding.md R60, R61). Only a command wire that is low asks for nothing. -/
def decodeHost : HostWord → Except DecodeError Instr
  | .encHdr q =>
    .ok (.encHdr (q.extractLsb' 73 8) (q.extractLsb' 65 8) (q.extractLsb' 64 1) (q.extractLsb' 32 32) (q.extractLsb' 0 32))
  | .encode q payload =>
    .ok (.encode (q.extractLsb' 73 8) (q.extractLsb' 65 8) (q.extractLsb' 64 1) (q.extractLsb' 32 32) (q.extractLsb' 0 32)
      payload)
  | .decode h => .ok (.decode h)
  | .typeClassify t => .ok (.typeClassify t)
  | .flagsTrunc v => .ok (.flagsTrunc v)
  | .flagsUnion ab => .ok (.flagsUnion (ab.extractLsb' 8 8) (ab.extractLsb' 0 8))
  | .flagsContains vf => .ok (.flagsContains (vf.extractLsb' 8 8) (vf.extractLsb' 0 8))
  | .goawayParse g => .ok (.goawayParse g)
  | .errcodeDecode e => .ok (.errcodeDecode e)
  | .rst wire => if wire = 1#1 then .ok .reset else .error .wireNotAsserted
  | .start wire => if wire = 1#1 then .ok .start else .error .wireNotAsserted

/-- The decoder. A frame's header word is laid out as its nine wire bytes and decoded from them. -/
def decode : InstrWord → Except DecodeError Instr
  | .frame h => .ok (instrOfHeader (decodeHeader (headerBytes h)))
  | .host w => decodeHost w

/-- The decoder on the bytes of the RX stream: the instruction of the first nine, and the rest (30_encoding.md R59). -/
def decodeFrameBytes : List Byte → Except DecodeError (Instr × List Byte)
  | b0 :: b1 :: b2 :: b3 :: b4 :: b5 :: b6 :: b7 :: b8 :: rest =>
    .ok (instrOfHeader (decodeHeader #v[b0, b1, b2, b3, b4, b5, b6, b7, b8]), rest)
  | _ => .error .shortHeader

/-- The word of `nbits` table bits (bit 0 least significant; the header word is `H[71:0]`, wire byte 0 in bits 71:64, R51).
Words of equal width on different ports carry equal bits (R61), so one port is taken for each width (log 12). -/
def tableWord (nbits w : Nat) : Option InstrWord :=
  match nbits with
  | 72 => some (.frame (BitVec.ofNat 72 w))
  | 88 => some (.host (.encode (BitVec.ofNat 81 w) (List.replicate (w % 2 ^ 32) 0)))
  | 81 => some (.host (.encode (BitVec.ofNat 81 w) (List.replicate (w % 2 ^ 32) 0)))
  | 64 => some (.host (.goawayParse (BitVec.ofNat 64 w)))
  | 32 => some (.host (.errcodeDecode (BitVec.ofNat 32 w)))
  | 16 => some (.host (.flagsUnion (BitVec.ofNat 16 w)))
  | 8 => some (.host (.typeClassify (BitVec.ofNat 8 w)))
  | 1 => some (.host (.rst (BitVec.ofNat 1 w)))
  | _ => none

/-- The instruction the decoder reads from a table word. -/
def decodeTableWord (nbits w : Nat) : Option Instr :=
  (tableWord nbits w).bind fun p =>
    match decode p with
    | .ok i => some i
    | .error _ => none

/-! ### The encoder -/

/-- The header word `length ‖ type ‖ flags ‖ R ‖ sid` (30_encoding.md R51). -/
def headerWord (h : FrameHeader) : HeaderWord := h.length ++ h.type ++ h.flags ++ h.r ++ h.sid

/-- The operand bundle `Q = enc_type ‖ enc_flags ‖ enc_r ‖ enc_sid ‖ enc_plen` (30_encoding.md R60). -/
def operandQ (type flags : Byte) (r : Bit) (sid plen : Word32) : OperandQ := type ++ flags ++ r ++ sid ++ plen

/-- The word of an instruction. -/
def encode : Instr → InstrWord
  | .data l f r s => .frame (headerWord ⟨l, 0x00#8, f, r, s⟩)
  | .headers l f r s => .frame (headerWord ⟨l, 0x01#8, f, r, s⟩)
  | .priority l f r s => .frame (headerWord ⟨l, 0x02#8, f, r, s⟩)
  | .rstStream l f r s => .frame (headerWord ⟨l, 0x03#8, f, r, s⟩)
  | .settings l f r s => .frame (headerWord ⟨l, 0x04#8, f, r, s⟩)
  | .pushPromise l f r s => .frame (headerWord ⟨l, 0x05#8, f, r, s⟩)
  | .ping l f r s => .frame (headerWord ⟨l, 0x06#8, f, r, s⟩)
  | .goaway l f r s => .frame (headerWord ⟨l, 0x07#8, f, r, s⟩)
  | .windowUpdate l f r s => .frame (headerWord ⟨l, 0x08#8, f, r, s⟩)
  | .continuation l f r s => .frame (headerWord ⟨l, 0x09#8, f, r, s⟩)
  | .unknown0A t l f r s => .frame (headerWord ⟨l, t, f, r, s⟩)
  | .unknown0C t l f r s => .frame (headerWord ⟨l, t, f, r, s⟩)
  | .unknown10 t l f r s => .frame (headerWord ⟨l, t, f, r, s⟩)
  | .unknown20 t l f r s => .frame (headerWord ⟨l, t, f, r, s⟩)
  | .unknown40 t l f r s => .frame (headerWord ⟨l, t, f, r, s⟩)
  | .unknown80 t l f r s => .frame (headerWord ⟨l, t, f, r, s⟩)
  | .encHdr t f r s n => .host (.encHdr (operandQ t f r s n))
  | .encode t f r s n payload => .host (.encode (operandQ t f r s n) payload)
  | .decode h => .host (.decode h)
  | .typeClassify t => .host (.typeClassify t)
  | .flagsTrunc v => .host (.flagsTrunc v)
  | .flagsUnion a b => .host (.flagsUnion (a ++ b))
  | .flagsContains v f => .host (.flagsContains (v ++ f))
  | .goawayParse g => .host (.goawayParse g)
  | .errcodeDecode e => .host (.errcodeDecode e)
  | .reset => .host (.rst 1)
  | .start => .host (.start 1)

end Sys2Proof
end

