-- ==== Sys2Proof/Machine/State.lean ====
section
/-! DEFINITION. The state of the block as plain data (10_state.md), what stands around it (the environment's inputs and the
output ports, 43_control_and_host.md R123), and the state after reset (10_state.md R28). -/

namespace Sys2Proof.Machine

/-- `st` (R11). -/
inductive DspState where
  | idle
  | hdr
  | pay
  | done
  | fault
  deriving DecidableEq, Repr

/-- `term_cause` (R19). -/
inductive TermCause where
  | none
  | goaway
  | dataEndStream
  deriving DecidableEq, Repr

/-- `fault_cause` (R20). -/
inductive FaultCause where
  | none
  | transport
  | goawayShort
  deriving DecidableEq, Repr

/-- `enc_status` (R22). -/
inductive EncStatus where
  | none
  | ok
  | precondition
  | ioFailure
  deriving DecidableEq, Repr

/-- The result of GOAWAY.PARSE (41_decode.md R86). -/
structure GoawayResult where
  r : Bit
  lastSid : Sid
  errRaw : Word32
  errKnown : Bool
  deriving DecidableEq, Repr

/-- An event of `evlog` (R25). -/
inductive Event where
  | header (h : FrameHeader)
  | goaway (g : GoawayResult)
  | done (cause : TermCause)
  | fault (cause : FaultCause)
  deriving DecidableEq, Repr

/-- The result of ENC.HDR (40_encode.md R71): `ok` carries `enc_hdr`, `err` the non-empty set `enc_err_comb`. `enc_hdr` "has
no meaning when `enc_ok = 0`", so `err` carries none. -/
inductive EncResult where
  | ok (hdr : Vector Byte 9)
  | err (e : BitVec 3)
  deriving DecidableEq, Repr

/-- The result of TYPE.CLASSIFY (41_decode.md R82). -/
structure TypeClass where
  known : Bool
  kind : BitVec 4
  deriving DecidableEq, Repr

/-- The results of DECODE, the ports `dec_*` (41_decode.md R81, 43_control_and_host.md R123). -/
structure Decoded where
  header : FrameHeader
  typeClass : TypeClass
  flagsKnown : Byte
  endStream : Bool
  endHeaders : Bool
  deriving DecidableEq, Repr

/-- What a combinational operation puts on its result ports. -/
inductive OpResult where
  | encHdr (r : EncResult)
  | decoded (d : Decoded)
  | typeClass (c : TypeClass)
  | flags (v : Byte)
  | contains (b : Bool)
  | goaway (g : GoawayResult)
  | errcode (known : Bool)
  deriving DecidableEq, Repr

/-- What the outside goes on to do when no listed input can be taken (R26, 42_dispatch.md R111; log 26): nothing; without end,
whatever the free values of Config say; or without end, the listed period over and over. -/
inductive Supply where
  | silent
  | endless (next : Nat)
  | cycle (ahead period : List Input)
  deriving DecidableEq, Repr

/-- The environment, none of it the block's own (R26): the inputs to come, listed and then supplied, the bytes left unread on
the payload port (70_reset_and_hazards.md R167), and the sink's answer to the write in hand (40_encode.md R74). -/
structure Env where
  inputs : List Input
  supply : Supply
  plPort : List Byte
  txErr : Option Nat
  deriving DecidableEq, Repr

/-- What the last step put on the output ports that no register holds (R123). -/
structure Out where
  result : Option OpResult
  hdrStrobe : Bool
  gaStrobe : Bool
  encDone : Bool
  deriving DecidableEq, Repr

/-- No result and every strobe low. -/
def Out.quiet : Out := { result := none, hdrStrobe := false, gaStrobe := false, encDone := false }

/-- The state. Names are the spec's (10_state.md), one comment a rule. -/
structure State where
  /-- R11 -/
  st : DspState
  /-- R12: the stream offset, this block's program counter. -/
  pos : Nat
  /-- R13 -/
  hcnt : Fin 9
  /-- R14 -/
  hb : Vector Byte 9
  /-- R15: the valid flag of `h`. -/
  hv : Bool
  /-- R15 -/
  h : FrameHeader
  /-- R16 -/
  prem : Len
  /-- R17 -/
  ga : Vector Byte 8
  /-- R17 -/
  gcnt : Fin 9
  /-- R18: the valid flag of the four registers below. -/
  gaValid : Bool
  /-- R18 -/
  gaR : Bit
  /-- R18 -/
  gaLastSid : Sid
  /-- R18 -/
  gaErrRaw : Word32
  /-- R18 -/
  gaErrKnown : Bool
  /-- R19 -/
  termCause : TermCause
  /-- R20 -/
  faultCause : FaultCause
  /-- R21 -/
  fcnt : BitVec 32
  /-- R22 -/
  encStatus : EncStatus
  /-- R22: bit 0 SID_TOP_BIT, bit 1 LEN_BOUND, bit 2 TYPE_NOT_ENCODABLE. -/
  encErr : BitVec 3
  /-- R23 -/
  txPos : Nat
  /-- R23: the TX space. -/
  txlog : List Byte
  /-- R25 -/
  evlog : List Event
  /-- R26: the model's own (log 1, log 2). -/
  env : Env
  /-- R123: the model's own (log 1, log 5). -/
  out : Out
  deriving DecidableEq, Repr

/-- Why the machine stops. The DSP faults of 60_exceptions.md are no stops: they are states with `st = FAULT`. -/
inductive Fault where
  /-- Raised by ENCODE alone: the request is accepted and the payload port offers fewer than `enc_plen` bytes, which "stalls
  the operation for ever" (70_reset_and_hazards.md R167; a stuck state). Safe: the model stops where the hardware waits. -/
  | payloadStarved
  deriving DecidableEq, Repr

/-- Why an instruction has no meaning. No meaning of this model answers with a refusal. -/
inductive Refusal where
  /-- Raised by an arm of `exec` whose instruction has no meaning yet; no arm of this model raises it. Safe. -/
  | notModelled (mnemonic : String)
  deriving DecidableEq, Repr

/-- The state after RESET (10_state.md R28). The environment and the output ports are the model's own fields: nothing is
offered and nothing is on the ports (log 1). -/
def State.reset : State where
  st := .idle
  pos := 0
  hcnt := 0
  hb := Vector.replicate 9 0#8
  hv := false
  h := { length := 0#24, type := 0#8, flags := 0#8, r := 0#1, sid := 0#31 }
  prem := 0#24
  ga := Vector.replicate 8 0#8
  gcnt := 0
  gaValid := false
  gaR := 0#1
  gaLastSid := 0#31
  gaErrRaw := 0#32
  gaErrKnown := false
  termCause := .none
  faultCause := .none
  fcnt := 0#32
  encStatus := .none
  encErr := 0#3
  txPos := 0
  txlog := []
  evlog := []
  env := { inputs := [], supply := .silent, plPort := [], txErr := none }
  out := .quiet

end Sys2Proof.Machine
end

