-- ==== Sys2Proof/Machine/Flags.lean ====
section
/-! DEFINITION. The flag and type model of the DEC unit (41_decode.md R82 to R85, R87), the numeric codes of the status
registers (10_state.md R11, R19, R20, R22), and the status outputs (10_state.md R24, 43_control_and_host.md R123). -/

namespace Sys2Proof.Machine

/-! ### Frame flags and types -/

/-- `FlagsTrunc(v) = v & 0x05` (R83). -/
def flagsTrunc (v : Byte) : Byte := v &&& Config.flagsDefinedMask

/-- `FlagsUnion(a, b) = a | b` (R84). -/
def flagsUnion (a b : Byte) : Byte := a ||| b

/-- `FlagsContains(v, f) = ((v & f) = f)` (R85), for every 8-bit `f` (R88; log 15). -/
def flagsContains (v f : Byte) : Bool := v &&& f == f

/-- `ClassifyType(t)` (R82). The kind of an unknown code is the filler 0xF. -/
def classifyType (t : Byte) : TypeClass :=
  if t.toNat < Config.nKnownTypes then { known := true, kind := t.extractLsb' 0 4 }
  else { known := false, kind := 0xF#4 }

/-- `ErrcodeDecode(e) = (e <= 0xd)` on the whole 32-bit value (R87). -/
def errcodeDecode (e : Word32) : Bool := decide (e.toNat < Config.nErrcodes)

/-! ### Numeric codes -/

/-- R11. -/
def stCode : DspState → BitVec 3
  | .idle => 0
  | .hdr => 1
  | .pay => 2
  | .done => 3
  | .fault => 4

/-- R19. -/
def termCauseCode : TermCause → BitVec 2
  | .none => 0
  | .goaway => 1
  | .dataEndStream => 2

/-- R20. -/
def faultCauseCode : FaultCause → BitVec 2
  | .none => 0
  | .transport => 1
  | .goawayShort => 2

/-- R22. -/
def encStatusCode : EncStatus → BitVec 2
  | .none => 0
  | .ok => 1
  | .precondition => 2
  | .ioFailure => 3

/-! ### Status outputs -/

/-- `rx_ready = (st = HDR or st = PAY)` (42_dispatch.md R91). -/
def State.rxReady (s : State) : Bool := s.st == .hdr || s.st == .pay

/-- `enc_ready = (st = IDLE or st = DONE or st = FAULT)` (43_control_and_host.md R122). -/
def State.encReady (s : State) : Bool := s.st == .idle || s.st == .done || s.st == .fault

/-- `done = (st = DONE)` (R24). -/
def State.isDone (s : State) : Bool := s.st == .done

/-- `fault = (st = FAULT)` (R24). -/
def State.isFault (s : State) : Bool := s.st == .fault

/-- `hdr_length` to `hdr_sid` as a host may use them: absent while `hv = 0` (R15; log 11). -/
def State.hdrPorts (s : State) : Option FrameHeader := if s.hv then some s.h else none

/-- `ga_r` to `ga_err_known` as a host may use them: absent while `ga_valid = 0` (R18; log 11). -/
def State.gaPorts (s : State) : Option GoawayResult :=
  if s.gaValid then some { r := s.gaR, lastSid := s.gaLastSid, errRaw := s.gaErrRaw, errKnown := s.gaErrKnown } else none

/-- `enc_ok`, `enc_err_comb` and `enc_hdr`; the last "has no meaning when `enc_ok = 0`" (40_encode.md R71). -/
structure EncPorts where
  ok : Bool
  errComb : BitVec 3
  hdr : Option HeaderWord
  deriving DecidableEq, Repr

/-- `enc_ok = (e = 0)`, `enc_err_comb = e`, `enc_hdr = B[0] ‖ ... ‖ B[8]` (40_encode.md R71). -/
def encPortsOf : EncResult → EncPorts
  | .ok b => { ok := true, errComb := 0, hdr := some (b[0] ++ b[1] ++ b[2] ++ b[3] ++ b[4] ++ b[5] ++ b[6] ++ b[7] ++ b[8]) }
  | .err e => { ok := false, errComb := e, hdr := none }

/-- The encoder's combinational ports; absent while nothing is presented on its inputs (log 5). -/
def State.encPorts (s : State) : Option EncPorts :=
  match s.out.result with
  | some (.encHdr r) => some (encPortsOf r)
  | _ => none

/-- The outputs of R123. -/
structure Ports where
  enc : Option EncPorts
  result : Option OpResult
  rxReady : Bool
  encReady : Bool
  encDone : Bool
  encStatus : BitVec 2
  encErr : BitVec 3
  st : BitVec 3
  done : Bool
  fault : Bool
  termCause : BitVec 2
  faultCause : BitVec 2
  hv : Bool
  hdr : Option FrameHeader
  hdrStrobe : Bool
  gaValid : Bool
  gaResult : Option GoawayResult
  gaStrobe : Bool
  fcnt : BitVec 32
  deriving DecidableEq, Repr

/-- What the host sees of a state (R123, R127 "read status at any time"). -/
def State.ports (s : State) : Ports where
  enc := s.encPorts
  result := s.out.result
  rxReady := s.rxReady
  encReady := s.encReady
  encDone := s.out.encDone
  encStatus := encStatusCode s.encStatus
  encErr := s.encErr
  st := stCode s.st
  done := s.isDone
  fault := s.isFault
  termCause := termCauseCode s.termCause
  faultCause := faultCauseCode s.faultCause
  hv := s.hv
  hdr := s.hdrPorts
  hdrStrobe := s.out.hdrStrobe
  gaValid := s.gaValid
  gaResult := s.gaPorts
  gaStrobe := s.out.gaStrobe
  fcnt := s.fcnt

end Sys2Proof.Machine
end

