-- ==== Sys2Proof/Machine/Operands.lean ====
section
/-! DEFINITION. The operand forms: the header fields of a frame and the derived outputs of DECODE (41_decode.md R81), the
GOAWAY payload (30_encoding.md R56, 41_decode.md R86), the operand bundle of the encoder (40_encode.md R71). Each is a
function of its operands alone (10_state.md R10). -/

namespace Sys2Proof.Machine

/-- DECODE's results: the five fields and the outputs derived from them (R81). -/
def decodedOf (h : FrameHeader) : Decoded where
  header := h
  typeClass := classifyType h.type
  flagsKnown := flagsTrunc h.flags
  endStream := flagsContains h.flags Config.flagEndStream
  endHeaders := flagsContains h.flags Config.flagEndHeaders

/-- `GoawayParse(P[0..7])` (R86). -/
def goawayParse (p : Vector Byte 8) : GoawayResult :=
  let w0 := be32 p[0] p[1] p[2] p[3]
  let errRaw := be32 p[4] p[5] p[6] p[7]
  { r := reservedBit w0
    lastSid := identifier w0
    errRaw := errRaw
    errKnown := errcodeDecode errRaw }

/-- The eight payload bytes of the word `G = P0 ‖ ... ‖ P7` (R56). -/
def goawayBytes (g : GoawayWord) : Vector Byte 8 :=
  #v[g.extractLsb' 56 8, g.extractLsb' 48 8, g.extractLsb' 40 8, g.extractLsb' 32 8, g.extractLsb' 24 8,
     g.extractLsb' 16 8, g.extractLsb' 8 8, g.extractLsb' 0 8]

/-- The set `e` of violated preconditions: bit 0 SID_TOP_BIT, bit 1 LEN_BOUND, bit 2 TYPE_NOT_ENCODABLE (40_encode.md R71;
"reports every one that is violated as a bit of `e`", R72). -/
def encViolations (type : Byte) (sid plen : Word32) : BitVec 3 :=
  BitVec.ofBool (decide (type.toNat ≥ Config.nKnownTypes)) ++ BitVec.ofBool (decide (plen.toNat > Config.maxLen))
    ++ BitVec.ofBool sid.msb

/-- `EncodeHeader` (40_encode.md R71). -/
def encodeHeader (type flags : Byte) (r : Bit) (sid plen : Word32) : EncResult :=
  let e := encViolations type sid plen
  if e ≠ 0#3 then .err e
  else
    let w : Word32 := (r.setWidth 32 <<< 31) ||| (sid &&& 0x7FFFFFFF#32)
    .ok #v[plen.extractLsb' 16 8, plen.extractLsb' 8 8, plen.extractLsb' 0 8, type, flags,
      w.extractLsb' 24 8, w.extractLsb' 16 8, w.extractLsb' 8 8, w.extractLsb' 0 8]

end Sys2Proof.Machine
end

