-- ==== Sys2Proof/Machine/Ops.lean ====
section
/-! DEFINITION. The named operations over the state: events, the TX space (20_memory.md R33), the end of a frame
(42_dispatch.md R94), termination, and the fault entry (60_exceptions.md R146). -/

namespace Sys2Proof.Machine

/-! ### The TX space (20_memory.md R30, R33) -/

/-- The byte of TX at an offset; none where nothing has been appended (log 17). -/
def Memory.readByte (s : State) (offset : Nat) : Option Byte := s.txlog[offset]?

/-- The form of the TX space: `tx_pos` "is its length" (10_state.md R23). -/
def Memory.wf (s : State) : Bool := s.txPos == s.txlog.length

/-- `MemWrite(TX, tx_pos, n, v)`: append (20_memory.md R33). -/
def State.txWrite (s : State) (v : List Byte) : State :=
  { s with txlog := s.txlog ++ v, txPos := s.txPos + v.length }

/-- Offer `f` to the sink. It takes all of it, or fails after the first `k` bytes, `0 <= k < |f|`, `k` the environment's draw
(40_encode.md R74; log 6). An empty `f` cannot fail. The flag says whether all was accepted. -/
def State.sinkWrite (s : State) (f : List Byte) : State × Bool :=
  match s.env.txErr with
  | none => (s.txWrite f, true)
  | some k => (s.txWrite (f.take (k % f.length)), f.isEmpty)

/-! ### Events and output ports -/

/-- `emit EV(...)` (00_scope.md R7, 10_state.md R25): appended to the history, with the strobe of its kind (R123). -/
def State.emit (s : State) (e : Event) : State :=
  let out := match e with
    | .header _ => { s.out with hdrStrobe := true }
    | .goaway _ => { s.out with gaStrobe := true }
    | .done _ => s.out
    | .fault _ => s.out
  { s with evlog := s.evlog ++ [e], out := out }

/-- Put a combinational result on its port (43_control_and_host.md R122, R123; log 5). -/
def State.present (s : State) (r : OpResult) : State := { s with out := { s.out with result := some r } }

/-! ### Taking a fault -/

/-- `raise C`: the fault entry of the DSP unit (60_exceptions.md R146). There is no return from it (R151): RESET is the only
exit. -/
def State.raise (s : State) (c : FaultCause) : State :=
  { s with st := .fault, faultCause := c, hcnt := 0 }.emit (.fault c)

/-! ### The end of a frame -/

/-- Entry to DONE (42_dispatch.md R95, R102). -/
def State.terminate (s : State) (c : TermCause) : State :=
  { s with st := .done, termCause := c }.emit (.done c)

/-- `st <- HDR`: await the next frame (42_dispatch.md R94). -/
def State.awaitFrame (s : State) : State := { s with st := .hdr }

/-- Store a parsed GOAWAY payload (42_dispatch.md R102). -/
def State.latchGoaway (s : State) (g : GoawayResult) : State :=
  { s with gaR := g.r, gaLastSid := g.lastSid, gaErrRaw := g.errRaw, gaErrKnown := g.errKnown, gaValid := true }.emit
    (.goaway g)

/-- `FrameComplete` (42_dispatch.md R94): count the frame, then dispatch. A frame can complete only while the read loop runs
(R91); outside HDR and PAY nothing happens (R108; log 3). -/
def State.frameComplete (s : State) (dispatch : State → State) : State :=
  if s.rxReady then dispatch { s with fcnt := s.fcnt + 1#32 } else s

end Sys2Proof.Machine
end

