-- ==== Sys2Proof/Machine/Frames.lean ====
section
/-! DEFINITION. The frames (42_dispatch.md R95 to R105): what each does to the block when its last byte has been taken. The
payload has been read and discarded by then (R93), the first eight bytes of a GOAWAY kept in `GA`; the header is latched in
`H` (R92). The operands `r`, `sid` and the flag bits no rule names are ignored (R106). -/

namespace Sys2Proof.Machine

abbrev Result := Host.Outcome State Fault Refusal

/-- `Dispatch_DATA` (R95). -/
def dispatchData (flags : Byte) (s : State) : State :=
  if flagsContains flags Config.flagEndStream then s.terminate .dataEndStream else s.awaitFrame

/-- `Dispatch_GOAWAY` (R102); shorter than eight bytes it raises GOAWAY_SHORT (60_exceptions.md R142). -/
def dispatchGoaway (length : Len) (s : State) : State :=
  if length.toNat ≥ Config.goawayMin then (s.latchGoaway (goawayParse s.ga)).terminate .goaway else s.raise .goawayShort

/-- DATA (R95). -/
def execData (_length : Len) (flags : Byte) (_r : Bit) (_sid : Sid) (s : State) : Result :=
  .next (s.frameComplete (dispatchData flags))

/-- HEADERS (R96): END_STREAM does not terminate here. -/
def execHeaders (_length : Len) (_flags : Byte) (_r : Bit) (_sid : Sid) (s : State) : Result :=
  .next (s.frameComplete State.awaitFrame)

/-- PRIORITY (R97). -/
def execPriority (_length : Len) (_flags : Byte) (_r : Bit) (_sid : Sid) (s : State) : Result :=
  .next (s.frameComplete State.awaitFrame)

/-- RST_STREAM (R98). -/
def execRstStream (_length : Len) (_flags : Byte) (_r : Bit) (_sid : Sid) (s : State) : Result :=
  .next (s.frameComplete State.awaitFrame)

/-- SETTINGS (R99). -/
def execSettings (_length : Len) (_flags : Byte) (_r : Bit) (_sid : Sid) (s : State) : Result :=
  .next (s.frameComplete State.awaitFrame)

/-- PUSH_PROMISE (R100). -/
def execPushPromise (_length : Len) (_flags : Byte) (_r : Bit) (_sid : Sid) (s : State) : Result :=
  .next (s.frameComplete State.awaitFrame)

/-- PING (R101): no reply is sent. -/
def execPing (_length : Len) (_flags : Byte) (_r : Bit) (_sid : Sid) (s : State) : Result :=
  .next (s.frameComplete State.awaitFrame)

/-- GOAWAY (R102). -/
def execGoaway (length : Len) (_flags : Byte) (_r : Bit) (_sid : Sid) (s : State) : Result :=
  .next (s.frameComplete (dispatchGoaway length))

/-- WINDOW_UPDATE (R103). -/
def execWindowUpdate (_length : Len) (_flags : Byte) (_r : Bit) (_sid : Sid) (s : State) : Result :=
  .next (s.frameComplete State.awaitFrame)

/-- CONTINUATION (R104): accepted anywhere in the stream. -/
def execContinuation (_length : Len) (_flags : Byte) (_r : Bit) (_sid : Sid) (s : State) : Result :=
  .next (s.frameComplete State.awaitFrame)

/-- UNKNOWN, type 0x0A to 0x0B (R105). -/
def execUnknown0A (_type : Byte) (_length : Len) (_flags : Byte) (_r : Bit) (_sid : Sid) (s : State) : Result :=
  .next (s.frameComplete State.awaitFrame)

/-- UNKNOWN, type 0x0C to 0x0F (R105). -/
def execUnknown0C (_type : Byte) (_length : Len) (_flags : Byte) (_r : Bit) (_sid : Sid) (s : State) : Result :=
  .next (s.frameComplete State.awaitFrame)

/-- UNKNOWN, type 0x10 to 0x1F (R105). -/
def execUnknown10 (_type : Byte) (_length : Len) (_flags : Byte) (_r : Bit) (_sid : Sid) (s : State) : Result :=
  .next (s.frameComplete State.awaitFrame)

/-- UNKNOWN, type 0x20 to 0x3F (R105). -/
def execUnknown20 (_type : Byte) (_length : Len) (_flags : Byte) (_r : Bit) (_sid : Sid) (s : State) : Result :=
  .next (s.frameComplete State.awaitFrame)

/-- UNKNOWN, type 0x40 to 0x7F (R105). -/
def execUnknown40 (_type : Byte) (_length : Len) (_flags : Byte) (_r : Bit) (_sid : Sid) (s : State) : Result :=
  .next (s.frameComplete State.awaitFrame)

/-- UNKNOWN, type 0x80 to 0xFF (R105). -/
def execUnknown80 (_type : Byte) (_length : Len) (_flags : Byte) (_r : Bit) (_sid : Sid) (s : State) : Result :=
  .next (s.frameComplete State.awaitFrame)

end Sys2Proof.Machine
end

