-- ==== Sys2Proof/Machine/Control.lean ====
section
/-! DEFINITION. The control commands (43_control_and_host.md R120, R121). -/

namespace Sys2Proof.Machine

/-- RESET (R120): "every register and specification variable takes the value of" 10_state.md R28. What the host and the
transport will do next is not the block's, and stays (10_state.md R26; log 14). -/
def execReset (s : State) : Result := .next { State.reset with env := s.env }

/-- START (R121): in IDLE, `st <- HDR`, `hcnt <- 0`; in any other state "none at all". -/
def execStart (s : State) : Result := .next (if s.st = .idle then { s with st := .hdr, hcnt := 0 } else s)

end Sys2Proof.Machine
end

