-- ==== Sys2Proof/Machine/Decoder.lean ====
section
/-! DEFINITION. The DEC unit (41_decode.md): "combinational, stateless, total functions: none reads or writes any register".
Each puts its result on its port and changes nothing else. -/

namespace Sys2Proof.Machine

/-- DECODE (R81). -/
def execDecode (word : HeaderWord) (s : State) : Result :=
  .next (s.present (.decoded (decodedOf (decodeHeader (headerBytes word)))))

/-- TYPE.CLASSIFY (R82). -/
def execTypeClassify (t : Byte) (s : State) : Result := .next (s.present (.typeClass (classifyType t)))

/-- FLAGS.TRUNC (R83). -/
def execFlagsTrunc (v : Byte) (s : State) : Result := .next (s.present (.flags (flagsTrunc v)))

/-- FLAGS.UNION (R84). -/
def execFlagsUnion (a b : Byte) (s : State) : Result := .next (s.present (.flags (flagsUnion a b)))

/-- FLAGS.CONTAINS (R85). -/
def execFlagsContains (v f : Byte) (s : State) : Result := .next (s.present (.contains (flagsContains v f)))

/-- GOAWAY.PARSE (R86). -/
def execGoawayParse (word : GoawayWord) (s : State) : Result :=
  .next (s.present (.goaway (goawayParse (goawayBytes word))))

/-- ERRCODE.DECODE (R87). -/
def execErrcodeDecode (e : Word32) (s : State) : Result := .next (s.present (.errcode (errcodeDecode e)))

end Sys2Proof.Machine
end

