-- ==== Sys2Proof/Machine/Encoder.lean ====
section
/-! DEFINITION. The ENC unit (40_encode.md): ENC.HDR and ENCODE. -/

namespace Sys2Proof.Machine

/-- ENC.HDR (R71): combinational, available in every state (43_control_and_host.md R122); only the result ports change. -/
def execEncHdr (type flags : Byte) (r : Bit) (sid plen : Word32) (s : State) : Result :=
  .next (s.present (.encHdr (encodeHeader type flags r sid plen)))

/-- ENCODE has run: the status latch and the completion strobe `enc_done` (10_state.md R22, R123; log 25). -/
def State.encComplete (s : State) (status : EncStatus) (e : BitVec 3) : State :=
  { s with encStatus := status, encErr := e, out := { s.out with encDone := true } }

/-- Emit the frame `header ‖ payload` to the sink (R73, R74). -/
def State.emitFrame (s : State) (hdr : Vector Byte 9) (payload : List Byte) : State :=
  let w := s.sinkWrite (hdr.toList ++ payload)
  w.1.encComplete (if w.2 then .ok else .ioFailure) 0#3

/-- ENCODE (R73). Its operands stand on the `enc_*` inputs, so in every state the combinational outputs `enc_ok`,
`enc_err_comb` and `enc_hdr` show ENC.HDR's result for them (43_control_and_host.md R122, R123). Not accepted while
`enc_ready` is low: no effect on any register (R122; log 8). A precondition
violation writes nothing (R72). Otherwise exactly `enc_plen` bytes are forwarded from the payload port, what was left unread
there standing first; a surplus stays there, and fewer stall the operation (70_reset_and_hazards.md R167; log 7). -/
def execEncode (type flags : Byte) (r : Bit) (sid plen : Word32) (payload : List Byte) (s : State) : Result :=
  let result := encodeHeader type flags r sid plen
  let s := s.present (.encHdr result)
  if s.encReady then
    match result with
    | .err e => .next (s.encComplete .precondition e)
    | .ok hdr =>
      let offered := s.env.plPort ++ payload
      if offered.length < plen.toNat then .fault .payloadStarved
      else
        let s := { s with env := { s.env with plPort := offered.drop plen.toNat } }
        .next (s.emitFrame hdr (offered.take plen.toNat))
  else .next s

end Sys2Proof.Machine
end

