-- ==== Sys2Proof/Machine/Dispatch.lean ====
section
/-! DEFINITION. The dispatch: one arm per constructor of Instr. -/

namespace Sys2Proof.Machine

def exec (i : Instr) (s : State) : Host.Outcome State Fault Refusal :=
  match i with
  | .data length flags r sid => Sys2Proof.Machine.execData length flags r sid s
  | .headers length flags r sid => Sys2Proof.Machine.execHeaders length flags r sid s
  | .priority length flags r sid => Sys2Proof.Machine.execPriority length flags r sid s
  | .rstStream length flags r sid => Sys2Proof.Machine.execRstStream length flags r sid s
  | .settings length flags r sid => Sys2Proof.Machine.execSettings length flags r sid s
  | .pushPromise length flags r sid => Sys2Proof.Machine.execPushPromise length flags r sid s
  | .ping length flags r sid => Sys2Proof.Machine.execPing length flags r sid s
  | .goaway length flags r sid => Sys2Proof.Machine.execGoaway length flags r sid s
  | .windowUpdate length flags r sid => Sys2Proof.Machine.execWindowUpdate length flags r sid s
  | .continuation length flags r sid => Sys2Proof.Machine.execContinuation length flags r sid s
  | .unknown0A type length flags r sid => Sys2Proof.Machine.execUnknown0A type length flags r sid s
  | .unknown0C type length flags r sid => Sys2Proof.Machine.execUnknown0C type length flags r sid s
  | .unknown10 type length flags r sid => Sys2Proof.Machine.execUnknown10 type length flags r sid s
  | .unknown20 type length flags r sid => Sys2Proof.Machine.execUnknown20 type length flags r sid s
  | .unknown40 type length flags r sid => Sys2Proof.Machine.execUnknown40 type length flags r sid s
  | .unknown80 type length flags r sid => Sys2Proof.Machine.execUnknown80 type length flags r sid s
  | .encHdr type flags r sid plen => Sys2Proof.Machine.execEncHdr type flags r sid plen s
  | .encode type flags r sid plen payload => Sys2Proof.Machine.execEncode type flags r sid plen payload s
  | .decode word => Sys2Proof.Machine.execDecode word s
  | .typeClassify t => Sys2Proof.Machine.execTypeClassify t s
  | .flagsTrunc v => Sys2Proof.Machine.execFlagsTrunc v s
  | .flagsUnion a b => Sys2Proof.Machine.execFlagsUnion a b s
  | .flagsContains v f => Sys2Proof.Machine.execFlagsContains v f s
  | .goawayParse word => Sys2Proof.Machine.execGoawayParse word s
  | .errcodeDecode e => Sys2Proof.Machine.execErrcodeDecode e s
  | .reset => Sys2Proof.Machine.execReset s
  | .start => Sys2Proof.Machine.execStart s

end Sys2Proof.Machine
end

