-- ==== Sys2Proof/Machine/Rx.lean ====
section
/-! DEFINITION. The byte steps of the DSP unit (42_dispatch.md R92, R93, R107): what one transfer on RX does, up to the point
where a frame completes. The frame's own effect is its instruction's meaning. -/

namespace Sys2Proof.Machine

/-- A byte step: the state after the byte is accounted for, and the header of the frame it completes, if it does. -/
structure Transfer where
  state : State
  complete : Option FrameHeader
  deriving DecidableEq, Repr

/-- `H <- h ; hv <- 1 ; emit EV_HEADER(h) ; hcnt <- 0 ; gcnt <- 0` (R92). -/
def State.latchHeader (s : State) (h : FrameHeader) : State :=
  { s with h := h, hv := true, hcnt := 0, gcnt := 0 }.emit (.header h)

/-- Header byte step (R92). -/
def headerByte (s : State) (b : Byte) : Transfer :=
  let s := { s with hb := s.hb.set s.hcnt b, pos := s.pos + 1 }
  if s.hcnt < 8 then
    { state := { s with hcnt := s.hcnt + 1 }, complete := none }
  else
    let h := decodeHeader s.hb
    let s := s.latchHeader h
    if h.length = 0#24 then { state := s, complete := some h }
    else { state := { s with prem := h.length, st := .pay }, complete := none }

/-- Keep a byte of a GOAWAY payload while fewer than eight are kept (R93). -/
def State.capture (s : State) (b : Byte) : State :=
  if s.h.type = 0x07#8 then
    if hlt : s.gcnt.val < 8 then { s with ga := s.ga.set s.gcnt.val b, gcnt := s.gcnt + 1 } else s
  else s

/-- Payload byte step (R93). -/
def payloadByte (s : State) (b : Byte) : Transfer :=
  let s := { s with pos := s.pos + 1 }.capture b
  if s.prem = 1#24 then { state := { s with prem := 0#24 }, complete := some s.h }
  else { state := { s with prem := s.prem - 1#24 }, complete := none }

/-- One byte of RX: in HDR and PAY it is taken; elsewhere it is not accepted (R91). -/
def rxByte (s : State) (b : Byte) : Transfer :=
  match s.st with
  | .idle => { state := s, complete := none }
  | .hdr => headerByte s b
  | .pay => payloadByte s b
  | .done => { state := s, complete := none }
  | .fault => { state := s, complete := none }

/-- RX error step (R107): in HDR and PAY the fault TRANSPORT; elsewhere no notice is taken (R91). -/
def rxError (s : State) : State := if s.rxReady then s.raise .transport else s

end Sys2Proof.Machine
end

