-- ==== Sys2Proof/Machine/Fetch.lean ====
section
/-! DEFINITION. Which input the block takes next, and the instruction it makes the block run (42_dispatch.md R91,
43_control_and_host.md R122, R123); and how an instruction's word is placed so that the next step runs it. -/

namespace Sys2Proof.Machine

/-- Whether an input can be taken in a state. RX inputs need `rx_ready` (42_dispatch.md R91), ENCODE needs `enc_ready`
(43_control_and_host.md R122); RESET is "Enabled in every state" (R120), START is ignored outside IDLE, not held (R121), and
the combinational functions are "available in every state" (R122). The host's preface write is its own (R124; log 13). -/
def State.enabled (s : State) : Input → Bool
  | .rxByte _ => s.rxReady
  | .rxErr => s.rxReady
  | .rxErrByte _ => s.rxReady
  | .request (.encode _ _) _ => s.encReady
  | .request _ _ => true
  | .preface _ => true
  | .resetWith _ => true

/-- The first input that satisfies `p`, and the list without it. -/
def takeFirst (p : Input → Bool) : List Input → Option (Input × List Input)
  | [] => none
  | i :: rest => if p i then some (i, rest) else (takeFirst p rest).map fun (j, others) => (j, i :: others)

/-- The next input of a supply, and the supply after it. -/
def Supply.draw : Supply → Option (Input × Supply)
  | .silent => none
  | .endless n => some (Config.inputStream n, .endless (n + 1))
  | .cycle (i :: ahead) period => some (i, .cycle ahead period)
  | .cycle [] (i :: period) => some (i, .cycle period (i :: period))
  | .cycle [] [] => none

/-- The first `n` inputs of a supply; fewer where it stops. -/
def Supply.first : Nat → Supply → List Input
  | 0, _ => []
  | n + 1, supply =>
    match supply.draw with
    | none => []
    | some (i, rest) => i :: rest.first n

/-- The state once the supply's next input is offered behind the listed ones; none where the supply is at its end. -/
def State.drawn (s : State) : Option State :=
  s.env.supply.draw.map fun (i, rest) => { s with env := { s.env with inputs := s.env.inputs ++ [i], supply := rest } }

/-- What is still offered of an input that came with `rst`: a handshake that has not taken place is offered on, while START,
"ignored, not queued" (43_control_and_host.md R121), and a second `rst` are gone with their instant (60_exceptions.md R150 d;
log 27). -/
def afterReset : Input → List Input
  | .rxByte b => [.rxByte b]
  | .rxErr => [.rxErr]
  | .rxErrByte b => [.rxErrByte b]
  | .request (.start _) _ => []
  | .request (.rst _) _ => []
  | .request w e => [.request w e]
  | .preface e => [.preface e]
  | .resetWith other => afterReset other

/-- The host's own preface write (43_control_and_host.md R124; 20_memory.md R33), no register of the block touched. -/
def State.writePreface (s : State) (txErr : Option Nat) : State :=
  ({ s with env := { s.env with txErr := txErr } }.sinkWrite Config.preface).1

/-- What a step has to do. -/
inductive Fetched where
  /-- No input is enabled: the block waits (42_dispatch.md R111). -/
  | wait
  /-- A transfer that completes no instruction, or none at all: an input is supplied that cannot be taken yet. -/
  | moved (s : State)
  /-- The instruction `i` is complete and runs in `s`. -/
  | run (i : Instr) (s : State)
  deriving DecidableEq, Repr

/-- Take one input, already out of the list, in a state whose strobes are low. Where what came with `rst` is offered on the
spec does not say: DESIGN CHOICE, at the head of the list, in front of any byte or request already held there, its own port's
among them (log 27). A byte that came with `rx_err` is at the head too (log 9). -/
def accept (s : State) : Input → Fetched
  | .rxByte b =>
    let t := rxByte s b
    match t.complete with
    | none => .moved t.state
    | some h => .run (instrOfHeader h) t.state
  | .rxErr => .moved (rxError s)
  | .rxErrByte b => .moved { rxError s with env := { s.env with inputs := .rxByte b :: s.env.inputs } }
  | .request w txErr =>
    match decode (.host w) with
    | .ok i => .run i { s with env := { s.env with txErr := txErr } }
    | .error _ => .moved s
  | .preface txErr => .moved (s.writePreface txErr)
  | .resetWith other => .run .reset { s with env := { s.env with inputs := afterReset other ++ s.env.inputs } }

/-- The state in which an input is taken: `rest` is left in the list, and every strobe is low, since a strobe lasts one
transfer (10_state.md R25). -/
def State.take (s : State) (rest : List Input) : State := { s with env := { s.env with inputs := rest }, out := .quiet }

/-- Take the first enabled input of the list, if there is one (log 2). -/
def State.takeListed (s : State) : Option Fetched :=
  (takeFirst s.enabled s.env.inputs).map fun (i, rest) => accept (s.take rest) i

/-- Take the first enabled input: a listed one, or else the supply's next. One that cannot be taken now is offered on, in the
list; where nothing is supplied either the block waits (log 2, log 26). -/
def fetch (s : State) : Fetched :=
  match s.takeListed with
  | some f => f
  | none =>
    match s.drawn with
    | none => .wait
    | some t => t.takeListed.getD (.moved t)

/-- Place a frame so that the next step runs it: the header complete but for its last byte, or, when payload follows, the
header latched and all of the payload but its last byte taken (log 4). -/
def placeFrame (s : State) (w : HeaderWord) : State :=
  let h := decodeHeader (headerBytes w)
  if h.length = 0#24 then
    { s with
      st := .hdr, hcnt := 8, hb := (headerBytes w).set 8 s.hb[8]
      env := { s.env with inputs := .rxByte (headerBytes w)[8] :: s.env.inputs } }
  else
    { s with
      st := .pay, hcnt := 0, hv := true, h := h, prem := 1#24, gcnt := Fin.ofNat 9 (min 8 (h.length.toNat - 1))
      env := { s.env with inputs := .rxByte 0 :: s.env.inputs } }

/-- Place a host operation: the next input is its request; where ENCODE is not accepted the block is first put in IDLE. -/
def placeHost (s : State) (w : HostWord) : State :=
  let s := { s with env := { s.env with inputs := .request w none :: s.env.inputs } }
  if s.enabled (.request w none) then s else { s with st := .idle, hcnt := 0 }

/-- Place an instruction's word. -/
def placeWord (s : State) : InstrWord → State
  | .frame w => placeFrame s w
  | .host w => placeHost s w

end Sys2Proof.Machine
end

