-- ==== Sys2Proof/Machine/Step.lean ====
section
/-! DEFINITION. One step: one transfer (00_scope.md R9 "step"), and the instruction it completes. -/

namespace Sys2Proof.Machine

def step (s : State) : Host.Outcome State Fault Refusal :=
  match fetch s with
  | .wait => .next s
  | .moved t => .next t
  | .run i t => exec i t

/-- `s` with the table word `w` where the next step runs it; unchanged where the width is no row's (log 4, log 12). -/
def State.withFetchWord (s : State) (nbits w : Nat) : State :=
  match tableWord nbits w with
  | some p => placeWord s p
  | none => s

end Sys2Proof.Machine
end

