-- ==== Sys2Proof/Machine/Stream.lean ====
section
/-! DEFINITION. The spec's notation for streams (30_encoding.md R63, R64) and the host's outbound sequence
(43_control_and_host.md R124 to R126), as lists of inputs. -/

namespace Sys2Proof.Machine

/-- A frame line `MNEMONIC [flags] [r] [sid] [len] [payload]` (R63); `len` defaults to the number of payload bytes. -/
structure FrameLine where
  type : Byte
  flags : Byte := 0
  r : Bit := 0
  sid : Sid := 0
  len : Option Len := none
  payload : List Byte := []
  deriving DecidableEq, Repr

/-- The bytes of a frame line: nine header bytes, then the payload (30_encoding.md R50). -/
def FrameLine.bytes (f : FrameLine) : List Byte :=
  let length := match f.len with
    | some n => n
    | none => BitVec.ofNat 24 f.payload.length
  (headerBytes (headerWord { length := length, type := f.type, flags := f.flags, r := f.r, sid := f.sid })).toList ++ f.payload

/-- The four bytes of a 32-bit value, most significant first (20_memory.md R31). -/
def be32Bytes (w : Word32) : List Byte := [w.extractLsb' 24 8, w.extractLsb' 16 8, w.extractLsb' 8 8, w.extractLsb' 0 8]

/-- The pseudo-instruction `GOAWAY last=<n> err=<n> [lr] [debug] [flags] [r] [sid]` (R64). -/
def goawayLine (last : Sid) (err : Word32) (lr : Bit := 0) (debug : List Byte := []) (flags : Byte := 0) (r : Bit := 0)
    (sid : Sid := 0) : FrameLine where
  type := 0x07#8
  flags := flags
  r := r
  sid := sid
  payload := be32Bytes (lr ++ last) ++ be32Bytes err ++ debug

/-- A line of a stream: a frame or a directive (R63). -/
inductive StreamLine where
  | frame (f : FrameLine)
  | bytes (b : List Byte)
  | err
  | stall
  deriving DecidableEq, Repr

/-- The RX inputs of a stream; after `.stall` "the transport delivers nothing more, for ever" (R63). -/
def streamInputs : List StreamLine → List Input
  | [] => []
  | .frame f :: rest => f.bytes.map .rxByte ++ streamInputs rest
  | .bytes b :: rest => b.map .rxByte ++ streamInputs rest
  | .err :: rest => .rxErr :: streamInputs rest
  | .stall :: _ => []

/-- One ENCODE request whose `enc_plen` is the length of its payload and whose sink does not fail. -/
def encodeRequest (type flags : Byte) (r : Bit) (sid : Word32) (payload : List Byte) : Input :=
  .request (.encode (operandQ type flags r sid (BitVec.ofNat 32 payload.length)) payload) none

/-- The outbound sequence of R125: the preface, a SETTINGS frame with an empty payload, a HEADERS frame with the literal
header-field payload, then START. The flags of each step and the stream identifier are the caller's policy. -/
def outboundSequence (settingsFlags headersFlags : Byte) (sid : Word32) : List Input :=
  [.preface none,
   encodeRequest 0x04#8 settingsFlags 0 0 [],
   encodeRequest 0x01#8 headersFlags 0 sid Config.headerFieldPayload,
   .request (.start 1) none]

end Sys2Proof.Machine
end

