-- ==== Sys2Proof/Machine/FrameLevel.lean ====
section
/-! DEFINITION. The loop at the level of frames, `Iterate(S)` (42_dispatch.md R109), written apart from the byte steps: what
the byte-level machine of Step.lean is to be compared with. -/

namespace Sys2Proof.Machine

/-- The content of RX: bytes, and the places where the adapter signals `rx_err` (10_state.md R26). -/
inductive RxItem where
  | byte (b : Byte)
  | err
  deriving DecidableEq, Repr

/-- The input an item is. -/
def rxInput : RxItem → Input
  | .byte b => .rxByte b
  | .err => .rxErr

/-- Reading `n` bytes: all of them, an error after `k` of them, or nothing more after `k` of them (a wait, R111). -/
inductive ReadResult where
  | got (bytes : List Byte) (rest : List RxItem)
  | failed (k : Nat)
  | short (k : Nat)
  deriving DecidableEq, Repr

def readBytes : Nat → List RxItem → ReadResult
  | 0, items => .got [] items
  | _ + 1, [] => .short 0
  | _ + 1, .err :: _ => .failed 0
  | n + 1, .byte b :: items =>
    match readBytes n items with
    | .got bytes rest => .got (b :: bytes) rest
    | .failed k => .failed (k + 1)
    | .short k => .short (k + 1)

/-- How the loop ends, or that it waits. -/
inductive Ending where
  | goaway (g : GoawayResult)
  | dataEndStream
  | transport
  | goawayShort
  | waiting
  deriving DecidableEq, Repr

/-- What a run of the loop has done: its end, the bytes read, the frames completely read, the headers completely read. -/
structure LoopRun where
  ending : Ending
  consumed : Nat
  frames : Nat
  headers : List FrameHeader
  deriving DecidableEq, Repr

/-- The nine bytes at the head of a list; 0 where there are fewer. -/
def firstNine (l : List Byte) : Vector Byte 9 := Vector.ofFn fun i => l.getD i.val 0

/-- The eight bytes at the head of a list; 0 where there are fewer. -/
def firstEight (l : List Byte) : Vector Byte 8 := Vector.ofFn fun i => l.getD i.val 0

/-- `Iterate(S)` (R109). Every iteration but the last reads nine bytes or more, so fuel beyond the length of RX suffices. -/
def iterate : Nat → List RxItem → LoopRun
  | 0, _ => { ending := .waiting, consumed := 0, frames := 0, headers := [] }
  | fuel + 1, items =>
    match readBytes Config.hdrBytes items with
    | .short k => { ending := .waiting, consumed := k, frames := 0, headers := [] }
    | .failed k => { ending := .transport, consumed := k, frames := 0, headers := [] }
    | .got b rest =>
      let h := decodeHeader (firstNine b)
      match readBytes h.length.toNat rest with
      | .short k => { ending := .waiting, consumed := Config.hdrBytes + k, frames := 0, headers := [h] }
      | .failed k => { ending := .transport, consumed := Config.hdrBytes + k, frames := 0, headers := [h] }
      | .got payload rest' =>
        let size := Config.hdrBytes + h.length.toNat
        if h.type = 0x07#8 then
          if h.length.toNat ≥ 8 then
            { ending := .goaway (goawayParse (firstEight payload)), consumed := size, frames := 1, headers := [h] }
          else { ending := .goawayShort, consumed := size, frames := 1, headers := [h] }
        else if h.type = 0x00#8 ∧ h.flags.getLsbD 0 then
          { ending := .dataEndStream, consumed := size, frames := 1, headers := [h] }
        else
          let r := iterate fuel rest'
          { ending := r.ending, consumed := size + r.consumed, frames := r.frames + 1, headers := h :: r.headers }

end Sys2Proof.Machine
end

