-- ==== Sys2Proof/Safety.lean ====
section
/-! DEFINITION. The terms claims use: when a run is over (42_dispatch.md R110), the invariants of the state (10_state.md
R29), and what the block's registers are, apart from the environment and the ports. -/

namespace Sys2Proof.Machine

/-- "A run is over exactly when `st = DONE` or `st = FAULT`" (R110). -/
def State.runOver (s : State) : Bool := s.st == .done || s.st == .fault

/-- A completed run ends in DONE (R110). -/
def State.completed (s : State) : Bool := s.st == .done

/-- A failed run ends in FAULT (R110). -/
def State.failed (s : State) : Bool := s.st == .fault

/-- "awaiting next frame": `st = HDR` with `hcnt = 0` (R90). -/
def State.awaiting (s : State) : Bool := s.st == .hdr && s.hcnt == 0

/-- The header an event carries. -/
def eventHeader : Event → Option FrameHeader
  | .header h => some h
  | .goaway _ => none
  | .done _ => none
  | .fault _ => none

/-- The headers of an event history, in order. -/
def headersOf (evlog : List Event) : List FrameHeader := evlog.filterMap eventHeader

/-- The bytes of the frames whose headers are given: `9 + length` each (20_memory.md R41). -/
def frameBytes (hs : List FrameHeader) : Nat := (hs.map fun h => Config.hdrBytes + h.length.toNat).sum

/-- The DSP unit's registers and its history are the same in two states (10_state.md R11 to R21, R25). -/
structure SameDsp (s t : State) : Prop where
  st : t.st = s.st
  pos : t.pos = s.pos
  hcnt : t.hcnt = s.hcnt
  hb : t.hb = s.hb
  hv : t.hv = s.hv
  h : t.h = s.h
  prem : t.prem = s.prem
  ga : t.ga = s.ga
  gcnt : t.gcnt = s.gcnt
  gaValid : t.gaValid = s.gaValid
  gaR : t.gaR = s.gaR
  gaLastSid : t.gaLastSid = s.gaLastSid
  gaErrRaw : t.gaErrRaw = s.gaErrRaw
  gaErrKnown : t.gaErrKnown = s.gaErrKnown
  termCause : t.termCause = s.termCause
  faultCause : t.faultCause = s.faultCause
  fcnt : t.fcnt = s.fcnt
  evlog : t.evlog = s.evlog

/-- The encoder's status latch and the TX space are the same in two states (10_state.md R22, R23). -/
structure SameEnc (s t : State) : Prop where
  encStatus : t.encStatus = s.encStatus
  encErr : t.encErr = s.encErr
  txPos : t.txPos = s.txPos
  txlog : t.txlog = s.txlog

/-- The GOAWAY result registers are the same in two states (10_state.md R18). -/
structure SameGoaway (s t : State) : Prop where
  gaValid : t.gaValid = s.gaValid
  gaR : t.gaR = s.gaR
  gaLastSid : t.gaLastSid = s.gaLastSid
  gaErrRaw : t.gaErrRaw = s.gaErrRaw
  gaErrKnown : t.gaErrKnown = s.gaErrKnown

/-- The registers a frame is collected in are the same in two states (10_state.md R12 to R17). -/
structure SameFrameRegs (s t : State) : Prop where
  pos : t.pos = s.pos
  hb : t.hb = s.hb
  hv : t.hv = s.hv
  h : t.h = s.h
  prem : t.prem = s.prem
  ga : t.ga = s.ga
  gcnt : t.gcnt = s.gcnt

/-- The invariants of R29 (a is the type of `st`, (i) the widths), with R23 for TX, and the history's share of (j). -/
structure Inv (s : State) : Prop where
  /-- R29 (b). -/
  hcnt_zero : s.st ≠ .hdr → s.hcnt = 0
  /-- R29 (c). -/
  pay_hv : s.st = .pay → s.hv = true
  /-- R29 (c). -/
  pay_prem : s.st = .pay → 1 ≤ s.prem.toNat ∧ s.prem.toNat ≤ s.h.length.toNat
  /-- R29 (c). -/
  pay_gcnt : s.st = .pay → s.h.type = 0x07#8 → s.gcnt.val = min 8 (s.h.length.toNat - s.prem.toNat)
  /-- R16: `prem` counts only inside a payload, or inside the one a fault cut short (R107). -/
  prem_zero : s.st ≠ .pay → s.st ≠ .fault → s.prem = 0#24
  /-- R29 (d). -/
  term_iff : s.termCause ≠ .none ↔ s.st = .done
  /-- R29 (e). -/
  fault_iff : s.faultCause ≠ .none ↔ s.st = .fault
  /-- R29 (f). -/
  ga_iff : s.gaValid = true ↔ s.termCause = .goaway
  /-- R29 (g). -/
  encErr_iff : s.encErr ≠ 0#3 ↔ s.encStatus = .precondition
  /-- R23: `tx_pos` is the length of `txlog`. -/
  tx_wf : s.txPos = s.txlog.length
  /-- R29 (j): the bytes of the frames begun, less what is still to come, plus the header bytes in hand. -/
  position : s.st ≠ .fault → s.pos + s.prem.toNat = frameBytes (headersOf s.evlog) + s.hcnt.val
  /-- R29 (j) after a fault: at most eight bytes of a header cut short are counted beside the frames begun (R107). -/
  position_fault : s.st = .fault →
    frameBytes (headersOf s.evlog) ≤ s.pos + s.prem.toNat ∧ s.pos + s.prem.toNat ≤ frameBytes (headersOf s.evlog) + 8
  /-- R21: every header seen is a completed frame but the one whose payload is still to come. -/
  frames : s.fcnt + (if s.prem = 0#24 then 0#32 else 1#32) = BitVec.ofNat 32 (headersOf s.evlog).length
  /-- R15: `H` is the last header reported, and there is one exactly when `hv = 1`. -/
  latest : (headersOf s.evlog).getLast? = s.hdrPorts

/-- `t` is `s`, or `s` with the supply's next input offered: where a step looks for the input it takes (log 26). -/
def Offers (s t : State) : Prop := t = s ∨ s.drawn = some t

/-- The step from `s` to `u` takes an asserted `rst` wire, alone or with something else, and leaves the reset state (R120,
60_exceptions.md R150 d). -/
def TakesReset (s u : State) : Prop :=
  ∃ (t : State) (before after : List Input), Offers s t ∧
    ((∃ e, t.env.inputs = before ++ .request (.rst 1#1) e :: after ∧
      u = { State.reset with env := { t.env with inputs := before ++ after, txErr := e } }) ∨
    (∃ i, t.env.inputs = before ++ .resetWith i :: after ∧
      u = { State.reset with env := { t.env with inputs := afterReset i ++ (before ++ after) } }))

/-- The step from `s` to `u` takes one RX byte out of the inputs. -/
def TakesRxByte (s u : State) : Prop :=
  ∃ (t : State) (before after : List Input) (b : Byte), Offers s t ∧ t.env.inputs = before ++ .rxByte b :: after ∧
    u.env = { t.env with inputs := before ++ after }

/-- An input on the RX port. -/
def onRx : Input → Bool
  | .rxByte _ => true
  | .rxErr => true
  | .rxErrByte _ => true
  | .request _ _ => false
  | .preface _ => false
  | .resetWith _ => false

/-- The GOAWAY capture buffer after a payload: its first eight bytes, and the old bytes where it had fewer (42_dispatch.md
R93). -/
def captured (ga : Vector Byte 8) (payload : List Byte) : Vector Byte 8 :=
  Vector.ofFn fun i => payload.getD i.val ga[i]

/-- The state in which a frame runs once its nine header bytes `b` and its whole payload have been read from the head of RX,
`rest` being what follows (42_dispatch.md R92, R93). -/
def State.afterFrame (s : State) (b : Vector Byte 9) (payload : List Byte) (rest : List Input) : State :=
  let h := decodeHeader b
  { s with
    st := if h.length = 0#24 then .hdr else .pay
    pos := s.pos + (Config.hdrBytes + h.length.toNat)
    hcnt := 0
    hb := b
    hv := true
    h := h
    prem := if h.length = 0#24 then s.prem else 0#24
    ga := if h.type = 0x07#8 then captured s.ga payload else s.ga
    gcnt := if h.type = 0x07#8 then Fin.ofNat 9 (min 8 h.length.toNat) else 0
    evlog := s.evlog ++ [.header h]
    env := { s.env with inputs := rest }
    out := if h.length = 0#24 then { Out.quiet with hdrStrobe := true } else .quiet }

/-- The byte-level machine, begun in `s`, stands in `t` where the frame-level loop says it must (42_dispatch.md R109). -/
def LoopAgrees (s t : State) (r : LoopRun) : Prop :=
  t.pos = s.pos + r.consumed ∧
  t.fcnt = s.fcnt + BitVec.ofNat 32 r.frames ∧
  headersOf t.evlog = headersOf s.evlog ++ r.headers ∧
  match r.ending with
  | .goaway g => t.st = .done ∧ t.termCause = .goaway ∧ t.gaPorts = some g
  | .dataEndStream => t.st = .done ∧ t.termCause = .dataEndStream ∧ SameGoaway s t
  | .transport => t.st = .fault ∧ t.faultCause = .transport ∧ SameGoaway s t
  | .goawayShort => t.st = .fault ∧ t.faultCause = .goawayShort ∧ SameGoaway s t
  | .waiting => t.rxReady = true ∧ t.env.inputs = [] ∧ SameGoaway s t

end Sys2Proof.Machine
end

