-- ==== Sys2Proof/Certificates/Slice0/Obligations.lean ====
section
/-! DEFINITION. The statements for the provers, each from the rules of spec/ its docstring names. A statement about the
environment's fields (env, out) rests on the model's own conventions, which the log entries it names declare. -/

open Sys2Proof Sys2Proof.Machine

/-! ### Encoding -/

/-- Decoding the word of a well-formed instruction gives the instruction back (R51, R53, R60, R61). -/
def Obligations.DecodeOfEncodeIsIdentity : Prop :=
  ∀ i : Instr, i.wf = true → decode (encode i) = .ok i

/-- R58: "every one of the 2^72 header words decodes"; and the word is recovered from what it decodes to (R89). -/
def Obligations.EveryHeaderWordDecodesAndReencodes : Prop :=
  ∀ w : HeaderWord, ∃ i, decode (.frame w) = .ok i ∧ i.wf = true ∧ encode i = .frame w

/-- R89: `DecodeHeader` is a bijection between nine-byte strings and header tuples, and `EncodeHeader` is its inverse on the
known types. -/
def Obligations.DecodeHeaderIsBijection : Prop :=
  (∀ h : FrameHeader, decodeHeader (headerBytes (headerWord h)) = h) ∧
  (∀ b : Vector Byte 9, headerBytes (headerWord (decodeHeader b)) = b) ∧
  (∀ h : FrameHeader, h.type.toNat ≤ 9 →
    encodeHeader h.type h.flags h.r (h.sid.setWidth 32) (h.length.setWidth 32) = .ok (headerBytes (headerWord h)))

/-- R53: the type byte alone selects the frame, its fields are kept, and 0x0A to 0xFF are the UNKNOWN rows. -/
def Obligations.TypeByteSelectsTheFrame : Prop :=
  ∀ (l : Len) (t f : Byte) (r : Bit) (sid : Sid),
    (instrOfHeader ⟨l, t, f, r, sid⟩).header = some ⟨l, t, f, r, sid⟩ ∧
    (instrOfHeader ⟨l, t, f, r, sid⟩).wf = true ∧
    instrOfHeader ⟨l, 0x00#8, f, r, sid⟩ = .data l f r sid ∧
    instrOfHeader ⟨l, 0x01#8, f, r, sid⟩ = .headers l f r sid ∧
    instrOfHeader ⟨l, 0x02#8, f, r, sid⟩ = .priority l f r sid ∧
    instrOfHeader ⟨l, 0x03#8, f, r, sid⟩ = .rstStream l f r sid ∧
    instrOfHeader ⟨l, 0x04#8, f, r, sid⟩ = .settings l f r sid ∧
    instrOfHeader ⟨l, 0x05#8, f, r, sid⟩ = .pushPromise l f r sid ∧
    instrOfHeader ⟨l, 0x06#8, f, r, sid⟩ = .ping l f r sid ∧
    instrOfHeader ⟨l, 0x07#8, f, r, sid⟩ = .goaway l f r sid ∧
    instrOfHeader ⟨l, 0x08#8, f, r, sid⟩ = .windowUpdate l f r sid ∧
    instrOfHeader ⟨l, 0x09#8, f, r, sid⟩ = .continuation l f r sid ∧
    (10 ≤ t.toNat → instrOfHeader ⟨l, t, f, r, sid⟩ ∈
      [.unknown0A t l f r sid, .unknown0C t l f r sid, .unknown10 t l f r sid, .unknown20 t l f r sid,
       .unknown40 t l f r sid, .unknown80 t l f r sid])

/-- Words written out from the spec: vectors E2, DV3, DV6, DV7, DV8, L11 (95_test_vectors.md), and operand words of R60,
R61. -/
def Obligations.WordsOfTheSpecDecode : Prop :=
  decode (.frame 0x000003010500000001#72) = .ok (.headers 3 0x05#8 0 1) ∧
  decode (.frame 0x000008070000000000#72) = .ok (.goaway 8 0x00#8 0 0) ∧
  decode (.frame 0x1234560A2580000001#72) = .ok (.unknown0A 0x0A#8 0x123456 0x25#8 1 1) ∧
  decode (.frame 0x00010009047FFFFFFF#72) = .ok (.continuation 256 0x04#8 0 0x7FFFFFFF) ∧
  decode (.frame 0x010000030000000100#72) = .ok (.rstStream 65536 0x00#8 0 256) ∧
  decode (.frame 0x000001FFFFFFFFFFFF#72) = .ok (.unknown80 0xFF#8 1 0xFF#8 1 0x7FFFFFFF) ∧
  decode (.host (.encHdr (0x09#8 ++ 0x04#8 ++ 1#1 ++ 0x12345678#32 ++ 0x00010203#32))) =
    .ok (.encHdr 0x09#8 0x04#8 1 0x12345678 0x00010203) ∧
  decode (.host (.flagsUnion 0x0104#16)) = .ok (.flagsUnion 0x01#8 0x04#8) ∧
  decode (.host (.rst 1)) = .ok .reset ∧
  decode (.host (.start 1)) = .ok .start

/-! ### The ENC unit -/

/-- R71: ENC.HDR answers, in every state, the nine bytes where all three preconditions hold. (That a result stands in
`out.result` is log 5.) -/
def Obligations.EncHdrGivesTheHeaderBytes : Prop :=
  ∀ (t f : Byte) (r : Bit) (sid plen : Word32) (s : State),
    sid.getLsbD 31 = false → plen.toNat < 2 ^ 24 → t.toNat < 10 →
    exec (.encHdr t f r sid plen) s = .next { s with
      out := { s.out with
        result := some (.encHdr (.ok #v[plen.extractLsb' 16 8, plen.extractLsb' 8 8, plen.extractLsb' 0 8, t, f,
          (r ++ sid.extractLsb' 24 7 : Byte), sid.extractLsb' 16 8, sid.extractLsb' 8 8, sid.extractLsb' 0 8])) } }

/-- R71, R72: where a precondition fails, ENC.HDR answers the set of all that fail, one bit each. (That a result stands in
`out.result` is log 5.) -/
def Obligations.EncHdrReportsEveryViolation : Prop :=
  ∀ (t f : Byte) (r : Bit) (sid plen : Word32) (s : State),
    sid.getLsbD 31 = true ∨ 2 ^ 24 ≤ plen.toNat ∨ 10 ≤ t.toNat →
    ∃ e : BitVec 3, e ≠ 0#3 ∧
      e.getLsbD 0 = sid.getLsbD 31 ∧
      e.getLsbD 1 = decide (2 ^ 24 ≤ plen.toNat) ∧
      e.getLsbD 2 = decide (10 ≤ t.toNat) ∧
      exec (.encHdr t f r sid plen) s = .next { s with out := { s.out with result := some (.encHdr (.err e)) } }

/-- R75: the round trip, in both directions, and the refusal of an unknown type. -/
def Obligations.EncodeDecodeRoundTripLaw : Prop :=
  (∀ (t f : Byte) (r : Bit) (s n : Word32) (b : Vector Byte 9), encodeHeader t f r s n = .ok b →
    (decodeHeader b).length = n.extractLsb' 0 24 ∧ (decodeHeader b).length.toNat = n.toNat ∧
    (decodeHeader b).type = t ∧ (classifyType (decodeHeader b).type).known = true ∧
    (decodeHeader b).flags = f ∧ (decodeHeader b).r = r ∧
    (decodeHeader b).sid = s.extractLsb' 0 31 ∧ (decodeHeader b).sid.toNat = s.toNat) ∧
  (∀ b : Vector Byte 9, b[3].toNat ≤ 9 →
    encodeHeader (decodeHeader b).type (decodeHeader b).flags (decodeHeader b).r ((decodeHeader b).sid.setWidth 32)
      ((decodeHeader b).length.setWidth 32) = .ok b) ∧
  (∀ b : Vector Byte 9, 10 ≤ b[3].toNat →
    encodeHeader (decodeHeader b).type (decodeHeader b).flags (decodeHeader b).r ((decodeHeader b).sid.setWidth 32)
      ((decodeHeader b).length.setWidth 32) = .err 0b100#3)

/-- R76: a set top bit is refused whatever `enc_r` is; on success bit 31 of the wire word is `enc_r`, and the decoded
identifier is the operand's number, below 2^31. -/
def Obligations.ReservedBitIsIsolated : Prop :=
  ∀ (t f : Byte) (r : Bit) (s n : Word32),
    (s.getLsbD 31 = true → ∃ e, encodeHeader t f r s n = .err e ∧ e.getLsbD 0 = true) ∧
    (∀ b, encodeHeader t f r s n = .ok b →
      b[5].extractLsb' 7 1 = r ∧ (decodeHeader b).sid.toNat = s.toNat ∧ s.toNat < 2 ^ 31)

/-- R73: an accepted ENCODE whose preconditions hold and whose sink does not fail appends exactly the nine header bytes
and the payload, and reports ENC_OK; the combinational outputs show its header (R71, R123; as `out.result`: log 5). (No byte
is left on the payload port from before: log 7. The strobe on every outcome is log 25.) -/
def Obligations.EncodeAppendsHeaderAndPayload : Prop :=
  ∀ (t f : Byte) (r : Bit) (sid plen : Word32) (payload : List Byte) (s : State),
    s.encReady = true → sid.getLsbD 31 = false → plen.toNat < 2 ^ 24 → t.toNat < 10 →
    payload.length = plen.toNat → s.env.plPort = [] → s.env.txErr = none →
    let hdr : Vector Byte 9 := #v[plen.extractLsb' 16 8, plen.extractLsb' 8 8, plen.extractLsb' 0 8, t, f,
      (r ++ sid.extractLsb' 24 7 : Byte), sid.extractLsb' 16 8, sid.extractLsb' 8 8, sid.extractLsb' 0 8]
    exec (.encode t f r sid plen payload) s = .next { s with
      txlog := s.txlog ++ hdr.toList ++ payload
      txPos := s.txPos + (9 + plen.toNat)
      encStatus := .ok
      encErr := 0#3
      out := { s.out with encDone := true, result := some (.encHdr (.ok hdr)) } }

/-- R72, R73, R168: a refused ENCODE writes nothing; it reports the set of violated preconditions, in the latch and on the
combinational outputs (as `out.result`: log 5). That the payload port too is as before, so that the payload of the refused
request is gone with it, is no rule's own words but the model's inference (log 7, DEDUCED). (The strobe on every outcome is
log 25.) -/
def Obligations.EncodeRefusalWritesNothing : Prop :=
  ∀ (t f : Byte) (r : Bit) (sid plen : Word32) (payload : List Byte) (s : State),
    s.encReady = true → sid.getLsbD 31 = true ∨ 2 ^ 24 ≤ plen.toNat ∨ 10 ≤ t.toNat →
    ∃ e : BitVec 3, e ≠ 0#3 ∧
      e.getLsbD 0 = sid.getLsbD 31 ∧
      e.getLsbD 1 = decide (2 ^ 24 ≤ plen.toNat) ∧
      e.getLsbD 2 = decide (10 ≤ t.toNat) ∧
      exec (.encode t f r sid plen payload) s = .next { s with
        encStatus := .precondition, encErr := e
        out := { s.out with encDone := true, result := some (.encHdr (.err e)) } }

/-- R74: when the sink fails after `k` bytes, exactly the first `k` bytes of the frame are in TX, for every `k` below the
frame's length (the draw stands in `env.txErr`, log 6), whatever was left on the payload port from before (log 7). That the
step uses up the `enc_plen` bytes of the payload though the sink has failed is no rule's own words but the model's inference
(log 22, DEDUCED). (The outputs as `out.result` are log 5, the strobe on every outcome is log 25.) -/
def Obligations.EncodeSinkFailureLeavesPrefix : Prop :=
  ∀ (t f : Byte) (r : Bit) (sid plen : Word32) (payload : List Byte) (s : State) (hdr : Vector Byte 9) (k : Nat),
    s.encReady = true → encodeHeader t f r sid plen = .ok hdr →
    plen.toNat ≤ (s.env.plPort ++ payload).length → s.env.txErr = some k → k < 9 + plen.toNat →
    exec (.encode t f r sid plen payload) s = .next { s with
      txlog := s.txlog ++ (hdr.toList ++ (s.env.plPort ++ payload).take plen.toNat).take k
      txPos := s.txPos + k
      encStatus := .ioFailure
      encErr := 0#3
      env := { s.env with plPort := (s.env.plPort ++ payload).drop plen.toNat }
      out := { s.out with encDone := true, result := some (.encHdr (.ok hdr)) } }

/-- R122: while `enc_ready` is low (exactly in HDR and PAY) an ENCODE has no effect on any register, and shows only its
combinational outputs (R123); no step runs an ENCODE, and its request is still offered after every step (log 8). -/
def Obligations.EncodeWaitsWhileTheLoopRuns : Prop :=
  ∀ (s : State),
    (s.encReady = false ↔ s.st = .hdr ∨ s.st = .pay) ∧
    (s.encReady = false → ∀ (t f : Byte) (r : Bit) (sid plen : Word32) (payload : List Byte),
      exec (.encode t f r sid plen payload) s =
        .next { s with out := { s.out with result := some (.encHdr (encodeHeader t f r sid plen)) } }) ∧
    (s.encReady = false → ∀ (t f : Byte) (r : Bit) (sid plen : Word32) (payload : List Byte) (u : State),
      fetch s ≠ .run (.encode t f r sid plen payload) u) ∧
    (s.encReady = false → ∀ (q : OperandQ) (payload : List Byte) (e : Option Nat) (u : State), step s = .next u →
      s.env.inputs.count (.request (.encode q payload) e) ≤ u.env.inputs.count (.request (.encode q payload) e))

/-- R167: exactly `enc_plen` bytes are forwarded, a surplus stays on the payload port for the next payload, and fewer stall
the operation, which the model stops by name (log 7). -/
def Obligations.EncodeForwardsExactlyPlenBytes : Prop :=
  ∀ (t f : Byte) (r : Bit) (sid plen : Word32) (payload : List Byte) (s : State) (hdr : Vector Byte 9),
    s.encReady = true → encodeHeader t f r sid plen = .ok hdr →
    ((s.env.plPort ++ payload).length < plen.toNat →
      exec (.encode t f r sid plen payload) s = .fault .payloadStarved) ∧
    (plen.toNat ≤ (s.env.plPort ++ payload).length → s.env.txErr = none →
      ∃ u, exec (.encode t f r sid plen payload) s = .next u ∧
        u.txlog = s.txlog ++ (hdr.toList ++ (s.env.plPort ++ payload).take plen.toNat) ∧
        u.env.plPort = (s.env.plPort ++ payload).drop plen.toNat)

/-- R73: what ENCODE leaves unchanged: the DSP unit and its history, the inputs and the other strobes, and every byte of TX
outside the `9 + enc_plen` bytes at the old end; the combinational outputs show ENC.HDR of its operands (R71, R123; as
`out.result`: log 5). -/
def Obligations.EncodeFrameCondition : Prop :=
  ∀ (t f : Byte) (r : Bit) (sid plen : Word32) (payload : List Byte) (s u : State),
    exec (.encode t f r sid plen payload) s = .next u →
    SameDsp s u ∧ u.env.inputs = s.env.inputs ∧ u.env.supply = s.env.supply ∧ u.env.txErr = s.env.txErr ∧
    u.out.result = some (.encHdr (encodeHeader t f r sid plen)) ∧ u.out.hdrStrobe = s.out.hdrStrobe ∧ u.out.gaStrobe = s.out.gaStrobe ∧
    (∀ a, a < s.txlog.length → Memory.readByte u a = Memory.readByte s a) ∧
    (∀ a, s.txlog.length + (9 + plen.toNat) ≤ a → Memory.readByte u a = Memory.readByte s a)

/-! ### The DEC unit -/

/-- R81: DECODE's results, read straight from the bits of the header word. (That a result stands in `out.result` is log
5.) -/
def Obligations.DecodeSplitsTheHeaderWord : Prop :=
  ∀ (w : HeaderWord) (s : State),
    exec (.decode w) s = .next { s with
      out := { s.out with
        result := some (.decoded
          { header :=
              { length := w.extractLsb' 48 24, type := w.extractLsb' 40 8, flags := w.extractLsb' 32 8,
                r := w.extractLsb' 31 1, sid := w.extractLsb' 0 31 }
            typeClass :=
              if (w.extractLsb' 40 8).toNat ≤ 9 then { known := true, kind := w.extractLsb' 40 4 }
              else { known := false, kind := 0xF#4 }
            flagsKnown := w.extractLsb' 32 8 &&& 0x05#8
            endStream := w.getLsbD 32
            endHeaders := w.getLsbD 34 }) } }

/-- R82: codes 0 to 9 are Known with their own kind; every other code is Unknown, and none fails. (That a result stands in
`out.result` is log 5.) -/
def Obligations.TypeClassifyIsTotal : Prop :=
  ∀ (t : Byte) (s : State),
    exec (.typeClassify t) s = .next { s with
      out := { s.out with
        result := some (.typeClass
          (if t.toNat ≤ 9 then { known := true, kind := t.extractLsb' 0 4 } else { known := false, kind := 0xF#4 })) } }

/-- R83, R84, R85: truncation to the named bits, union, and the test of one named bit. (That a result stands in
`out.result` is log 5.) -/
def Obligations.FlagOperations : Prop :=
  ∀ (a b : Byte) (s : State),
    exec (.flagsTrunc a) s = .next { s with out := { s.out with result := some (.flags (a &&& 0x05#8)) } } ∧
    exec (.flagsUnion a b) s = .next { s with out := { s.out with result := some (.flags (a ||| b)) } } ∧
    exec (.flagsContains a b) s = .next { s with out := { s.out with result := some (.contains (decide (a &&& b = b))) } } ∧
    exec (.flagsContains a 0x01#8) s = .next { s with out := { s.out with result := some (.contains (a.getLsbD 0)) } } ∧
    exec (.flagsContains a 0x04#8) s = .next { s with out := { s.out with result := some (.contains (a.getLsbD 2)) } }

/-- R86: the GOAWAY payload's fields, read straight from the bits of the word `G`. (That a result stands in `out.result`
is log 5.) -/
def Obligations.GoawayParseSplitsThePayload : Prop :=
  ∀ (g : GoawayWord) (s : State),
    exec (.goawayParse g) s = .next { s with
      out := { s.out with
        result := some (.goaway
          { r := g.extractLsb' 63 1, lastSid := g.extractLsb' 32 31, errRaw := g.extractLsb' 0 32,
            errKnown := decide ((g.extractLsb' 0 32).toNat ≤ 0xd) }) } }

/-- R87: the verdict is `e <= 0xd` on the whole 32-bit value. (That a result stands in `out.result` is log 5.) -/
def Obligations.ErrcodeDecodeTestsTheWholeValue : Prop :=
  ∀ (e : Word32) (s : State),
    exec (.errcodeDecode e) s = .next { s with out := { s.out with result := some (.errcode (decide (e.toNat ≤ 0xd))) } }

/-- R88, R122: the combinational operations answer in every state and leave every register, the TX space, the history, the
environment and the strobes alone. (That a result stands in `out.result` is log 5.) -/
def Obligations.CombinationalOpsTouchNoRegister : Prop :=
  ∀ (t f : Byte) (r : Bit) (sid plen : Word32) (w : HeaderWord) (a b : Byte) (g : GoawayWord) (e : Word32) (s : State),
    ∀ i ∈ [Instr.encHdr t f r sid plen, .decode w, .typeClassify a, .flagsTrunc a, .flagsUnion a b, .flagsContains a b,
      .goawayParse g, .errcodeDecode e],
    ∃ u, exec i s = .next u ∧ SameDsp s u ∧ SameEnc s u ∧ u.env = s.env ∧ u.out.result ≠ none ∧
      u.out.hdrStrobe = s.out.hdrStrobe ∧ u.out.gaStrobe = s.out.gaStrobe ∧ u.out.encDone = s.out.encDone ∧
      ∀ x, Memory.readByte u x = Memory.readByte s x

/-! ### The frames -/

/-- R94, R96 to R101, R103 to R105: HEADERS, PRIORITY, RST_STREAM, SETTINGS, PUSH_PROMISE, PING, WINDOW_UPDATE, CONTINUATION
and every UNKNOWN frame, when complete, are counted and the loop awaits the next frame. -/
def Obligations.OtherFramesAreCountedAndTheLoopGoesOn : Prop :=
  ∀ (t : Byte) (l : Len) (f : Byte) (r : Bit) (sid : Sid) (s : State), s.rxReady = true →
    ∀ i ∈ [Instr.headers l f r sid, .priority l f r sid, .rstStream l f r sid, .settings l f r sid,
      .pushPromise l f r sid, .ping l f r sid, .windowUpdate l f r sid, .continuation l f r sid,
      .unknown0A t l f r sid, .unknown0C t l f r sid, .unknown10 t l f r sid, .unknown20 t l f r sid,
      .unknown40 t l f r sid, .unknown80 t l f r sid],
    exec i s = .next { s with fcnt := s.fcnt + 1#32, st := .hdr }

/-- R95: a complete DATA frame ends the run exactly when bit 0 of its raw flags is set. -/
def Obligations.DataFrameEndsTheRunOnEndStream : Prop :=
  ∀ (l : Len) (f : Byte) (r : Bit) (sid : Sid) (s : State), s.rxReady = true →
    (f.getLsbD 0 = true → exec (.data l f r sid) s = .next { s with
      fcnt := s.fcnt + 1#32, st := .done, termCause := .dataEndStream, evlog := s.evlog ++ [.done .dataEndStream] }) ∧
    (f.getLsbD 0 = false → exec (.data l f r sid) s = .next { s with fcnt := s.fcnt + 1#32, st := .hdr })

/-- R102: a complete GOAWAY frame of eight bytes or more is parsed from `GA`, reported, and ends the run, whether or not its
error code is known. -/
def Obligations.GoawayFrameIsParsedAndEndsTheRun : Prop :=
  ∀ (l : Len) (f : Byte) (r : Bit) (sid : Sid) (s : State), s.rxReady = true → 8 ≤ l.toNat →
    let last : Sid := s.ga[0].extractLsb' 0 7 ++ s.ga[1] ++ s.ga[2] ++ s.ga[3]
    let err : Word32 := s.ga[4] ++ s.ga[5] ++ s.ga[6] ++ s.ga[7]
    exec (.goaway l f r sid) s = .next { s with
      fcnt := s.fcnt + 1#32
      st := .done
      termCause := .goaway
      gaR := s.ga[0].extractLsb' 7 1
      gaLastSid := last
      gaErrRaw := err
      gaErrKnown := decide (err.toNat ≤ 0xd)
      gaValid := true
      evlog := s.evlog ++ [.goaway ⟨s.ga[0].extractLsb' 7 1, last, err, decide (err.toNat ≤ 0xd)⟩, .done .goaway]
      out := { s.out with gaStrobe := true } }

/-- R142, R146: a complete GOAWAY frame of 0 to 7 bytes takes the fault GOAWAY_SHORT: `st`, `fault_cause`, `hcnt` and the
event are written, every other register keeps its value (`fcnt` counts the frame, R94). -/
def Obligations.ShortGoawayTakesTheFault : Prop :=
  ∀ (l : Len) (f : Byte) (r : Bit) (sid : Sid) (s : State), s.rxReady = true → l.toNat < 8 →
    exec (.goaway l f r sid) s = .next { s with
      fcnt := s.fcnt + 1#32
      st := .fault
      faultCause := .goawayShort
      hcnt := 0
      evlog := s.evlog ++ [.fault .goawayShort] }

/-- R91, R108, with the model's own convention (log 3): no frame completes outside HDR and PAY, so there a frame
instruction has no effect. -/
def Obligations.FramesDoNothingOutsideTheLoop : Prop :=
  ∀ (h : FrameHeader) (s : State), s.rxReady = false → exec (instrOfHeader h) s = .next s

/-- R94 to R105: what a completed frame leaves unchanged: the collecting registers and `pos`, the encoder latch, every byte
of TX, the environment; the GOAWAY registers for every frame but GOAWAY; `term_cause` for all but DATA and GOAWAY;
`fault_cause` and `hcnt` for all but GOAWAY. -/
def Obligations.FrameInstructionsFrameCondition : Prop :=
  ∀ (i : Instr) (h : FrameHeader) (s u : State), i.header = some h → i.wf = true → exec i s = .next u →
    SameFrameRegs s u ∧ SameEnc s u ∧ u.env = s.env ∧
    (∀ a, Memory.readByte u a = Memory.readByte s a) ∧
    (h.type ≠ 0x07#8 → SameGoaway s u ∧ u.faultCause = s.faultCause ∧ u.hcnt = s.hcnt ∧ u.out = s.out) ∧
    (h.type ≠ 0x07#8 → h.type ≠ 0x00#8 → u.termCause = s.termCause ∧ u.evlog = s.evlog)

/-- R106: dispatch reads the type, on DATA bit 0 of the flags, on GOAWAY the length and the captured bytes, and nothing
else of the header. -/
def Obligations.DispatchIgnoresTheOtherFields : Prop :=
  ∀ (h k : FrameHeader) (s : State), h.type = k.type →
    (h.type = 0x00#8 → h.flags.getLsbD 0 = k.flags.getLsbD 0) →
    (h.type = 0x07#8 → h.length = k.length) →
    exec (instrOfHeader h) s = exec (instrOfHeader k) s

/-! ### Control -/

/-- R120: RESET, in every state, gives every register and specification variable its reset value; the environment is not
the block's (log 14). -/
def Obligations.ResetRestoresEveryRegister : Prop :=
  ∀ s : State, exec .reset s = .next { State.reset with env := s.env }

/-- R28: the reset values, register by register. -/
def Obligations.ResetValues : Prop :=
  State.reset.st = .idle ∧ State.reset.hcnt = 0 ∧ (∀ i : Fin 9, State.reset.hb[i] = 0#8) ∧ State.reset.hv = false ∧
  State.reset.h = ⟨0#24, 0#8, 0#8, 0#1, 0#31⟩ ∧ State.reset.prem = 0#24 ∧ (∀ i : Fin 8, State.reset.ga[i] = 0#8) ∧
  State.reset.gcnt = 0 ∧ State.reset.gaValid = false ∧ State.reset.gaR = 0#1 ∧ State.reset.gaLastSid = 0#31 ∧
  State.reset.gaErrRaw = 0#32 ∧ State.reset.gaErrKnown = false ∧ State.reset.termCause = .none ∧
  State.reset.faultCause = .none ∧ State.reset.fcnt = 0#32 ∧ State.reset.encStatus = .none ∧ State.reset.encErr = 0#3 ∧
  State.reset.pos = 0 ∧ State.reset.txPos = 0 ∧ State.reset.txlog = [] ∧ State.reset.evlog = []

/-- R121: START in IDLE begins the loop and changes nothing else; in any other state it does nothing. -/
def Obligations.StartBeginsTheLoopOnlyInIdle : Prop :=
  ∀ s : State,
    (s.st = .idle → exec .start s = .next { s with st := .hdr, hcnt := 0 }) ∧
    (s.st ≠ .idle → exec .start s = .next s)

/-- R108: in DONE and FAULT no instruction but RESET changes any register of the DSP unit. -/
def Obligations.TerminalStatesAbsorbInstructions : Prop :=
  ∀ (i : Instr) (s u : State), s.runOver = true → i ≠ .reset → exec i s = .next u → SameDsp s u

/-- R108, R151: no step leaves DONE or FAULT, or changes a DSP register in them, but one that is a RESET. (RX and the
requests are the list of inputs of log 2.) -/
def Obligations.TerminalStatesAbsorbSteps : Prop :=
  ∀ s u : State, s.runOver = true → step s = .next u → SameDsp s u ∨ TakesReset s u

/-- No instruction is refused, and the only stop is an accepted ENCODE whose payload port runs dry (R58, R88, R167). (That
the stall is a stop is log 7.) -/
def Obligations.OnlyStarvedEncodeStops : Prop :=
  ∀ (i : Instr) (s : State),
    (∀ x, exec i s ≠ .refused x) ∧
    (∀ x, exec i s = .fault x → x = .payloadStarved ∧
      ∃ (t f : Byte) (r : Bit) (sid plen : Word32) (payload : List Byte), i = .encode t f r sid plen payload ∧
        s.encReady = true ∧ (s.env.plPort ++ payload).length < plen.toNat)

/-! ### One step -/

/-- A step runs the decoded instruction: a request's, when it is the next input and is enabled; a frame's, when its last
header byte arrives and it has no payload, or when its last payload byte arrives (R92, R93, R94, R122). (RX and the
requests are the list of inputs of log 2.) -/
def Obligations.StepRunsTheDecodedInstruction : Prop :=
  (∀ (s : State) (w : HostWord) (e : Option Nat) (rest : List Input) (i : Instr),
    s.env.inputs = .request w e :: rest → s.enabled (.request w e) = true → decode (.host w) = .ok i →
    step s = exec i { s with env := { s.env with inputs := rest, txErr := e }, out := .quiet }) ∧
  (∀ (s : State) (b : Byte) (rest : List Input) (h : FrameHeader),
    s.env.inputs = .rxByte b :: rest → s.st = .hdr → s.hcnt = 8 → decodeHeader (s.hb.set 8 b) = h → h.length = 0#24 →
    step s = exec (instrOfHeader h) { s with
      hb := s.hb.set 8 b, pos := s.pos + 1, h := h, hv := true, hcnt := 0, gcnt := 0, evlog := s.evlog ++ [.header h]
      env := { s.env with inputs := rest }, out := { Out.quiet with hdrStrobe := true } }) ∧
  (∀ (s : State) (b : Byte) (rest : List Input),
    s.env.inputs = .rxByte b :: rest → s.st = .pay → s.prem = 1#24 →
    step s = exec (instrOfHeader s.h)
      { { s with pos := s.pos + 1, env := { s.env with inputs := rest }, out := .quiet }.capture b with prem := 0#24 })

/-- R92: the header byte step, in its three cases. (RX and the requests are the list of inputs of log 2.) -/
def Obligations.HeaderByteStep : Prop :=
  ∀ (s : State) (b : Byte) (rest : List Input), s.st = .hdr → s.env.inputs = .rxByte b :: rest →
    (s.hcnt < 8 → step s = .next { s with
      hb := s.hb.set s.hcnt b, pos := s.pos + 1, hcnt := s.hcnt + 1
      env := { s.env with inputs := rest }, out := .quiet }) ∧
    (s.hcnt = 8 →
      let h := decodeHeader (s.hb.set 8 b)
      let t := { s with
        hb := s.hb.set 8 b, pos := s.pos + 1, h := h, hv := true, hcnt := 0, gcnt := 0, evlog := s.evlog ++ [.header h]
        env := { s.env with inputs := rest }, out := { Out.quiet with hdrStrobe := true } }
      (h.length = 0#24 → step s = exec (instrOfHeader h) t) ∧
      (h.length ≠ 0#24 → step s = .next { t with prem := h.length, st := .pay }))

/-- R93: the payload byte step: the first eight bytes of a GOAWAY are kept, every other byte is discarded, and the last
one completes the frame. (RX and the requests are the list of inputs of log 2.) -/
def Obligations.PayloadByteStep : Prop :=
  ∀ (s : State) (b : Byte) (rest : List Input), s.st = .pay → s.env.inputs = .rxByte b :: rest →
    let keep := s.h.type = 0x07#8 ∧ s.gcnt.val < 8
    let t := { s with
      pos := s.pos + 1
      ga := if hk : keep then s.ga.set s.gcnt.val b hk.2 else s.ga
      gcnt := if keep then s.gcnt + 1 else s.gcnt
      env := { s.env with inputs := rest }, out := .quiet }
    (s.prem = 1#24 → step s = exec (instrOfHeader s.h) { t with prem := 0#24 }) ∧
    (s.prem ≠ 1#24 → step s = .next { t with prem := s.prem - 1#24 })

/-- R107, R91, R150 (c): an RX error in HDR or PAY is the fault TRANSPORT and every other register keeps its value; a byte
offered with the error is not consumed. Outside HDR and PAY no step takes an RX input: each is still offered after it, and
where nothing but RX inputs is offered the step changes nothing at all. (RX is the list of inputs of log 2; an offered byte
stays in it, log 9; an error outside the loop stays too, log 10.) -/
def Obligations.RxErrorTakesTheTransportFault : Prop :=
  ∀ (s : State) (b : Byte) (rest : List Input),
    (s.rxReady = true → s.env.inputs = .rxErr :: rest → step s = .next { s with
      st := .fault, faultCause := .transport, hcnt := 0, evlog := s.evlog ++ [.fault .transport]
      env := { s.env with inputs := rest }, out := .quiet }) ∧
    (s.rxReady = true → s.env.inputs = .rxErrByte b :: rest → step s = .next { s with
      st := .fault, faultCause := .transport, hcnt := 0, evlog := s.evlog ++ [.fault .transport]
      env := { s.env with inputs := .rxByte b :: rest }, out := .quiet }) ∧
    (s.rxReady = false → ∀ u : State, step s = .next u → ∀ i : Input, onRx i = true →
      s.env.inputs.count i ≤ u.env.inputs.count i) ∧
    (s.rxReady = false → (∀ i ∈ s.env.inputs, onRx i = true) → s.env.supply.draw = none → step s = .next s)

/-- R111: while no input is enabled and none is supplied the block waits, and nothing at all changes. (RX and the requests
are the list of inputs of log 2, and the supply of log 26.) -/
def Obligations.BlockWaitsWithoutBound : Prop :=
  ∀ (s : State) (n : Nat), (∀ i ∈ s.env.inputs, s.enabled i = false) → s.env.supply.draw = none → core.run n s = .next s

/-- The model's order of events (log 2): the first enabled input is taken out of the list, the others keep their places. -/
def Obligations.FirstEnabledInputIsTaken : Prop :=
  ∀ (s : State) (pre post : List Input) (i : Input),
    s.env.inputs = pre ++ i :: post → (∀ j ∈ pre, s.enabled j = false) → s.enabled i = true →
    fetch s = accept { s with env := { s.env with inputs := pre ++ post }, out := .quiet } i

/-- The placed table word is fetched and run by the very next step (log 4, log 12). -/
def Obligations.PlacedWordRunsNext : Prop :=
  ∀ (s : State) (nbits w : Nat) (i : Instr), decodeTableWord nbits w = some i →
    ∃ u, fetch (s.withFetchWord nbits w) = .run i u ∧ step (s.withFetchWord nbits w) = exec i u

/-! ### The whole machine -/

/-- R29, with R15, R21 and R23: every step keeps the invariants of the state. -/
def Obligations.EveryStepKeepsTheInvariants : Prop :=
  ∀ s u : State, Inv s → step s = .next u → Inv u

/-- R29: the reset state meets the invariants. -/
def Obligations.ResetMeetsTheInvariants : Prop := Inv State.reset

/-- R41, R109: a whole frame, read byte by byte from a frame boundary, runs its instruction after exactly `9 + length`
steps, on the state in which exactly those bytes are consumed. (RX and the requests are the list of inputs of log 2.) -/
def Obligations.WholeFrameRunsItsInstruction : Prop :=
  ∀ (s : State) (b : Vector Byte 9) (payload : List Byte) (rest : List Input),
    s.st = .hdr → s.hcnt = 0 →
    s.env.inputs = (b.toList ++ payload).map .rxByte ++ rest →
    payload.length = (decodeHeader b).length.toNat →
    core.run (9 + payload.length) s = exec (instrOfHeader (decodeHeader b)) (s.afterFrame b payload rest)

/-- R109: from a frame boundary, whatever RX delivers, listed or supplied, finite or a first part of what never ends, the
byte-level machine reaches the outcome of the frame-level loop: the same end, the same bytes read, the same frames counted,
one header event for each header read, the same GOAWAY result; and where RX delivers no more it waits (R111). (RX is the list
of inputs of log 2 and the supply of log 26, the model's own form of it.) -/
def Obligations.ByteMachineRefinesTheFrameLoop : Prop :=
  ∀ (s : State) (items : List RxItem) (m : Nat),
    s.st = .hdr → s.hcnt = 0 → s.env.inputs ++ s.env.supply.first m = items.map rxInput →
    ∃ n u, core.run n s = .next u ∧ LoopAgrees s u (iterate (items.length + 1) items)

/-- R12: a step leaves `pos` or, taking one RX byte, adds exactly one; only a RESET sets it back. (RX and the requests are
the list of inputs of log 2 and the supply of log 26.) -/
def Obligations.PositionAdvancesByOneByte : Prop :=
  ∀ s u : State, step s = .next u →
    u.pos = s.pos ∨ (s.rxReady = true ∧ u.pos = s.pos + 1 ∧ TakesRxByte s u) ∨ TakesReset s u

/-- R25, R33: the history of events and the TX space only grow, but for a RESET: "A write cannot be undone, overwritten or
reordered". -/
def Obligations.HistoriesOnlyGrow : Prop :=
  ∀ s u : State, step s = .next u →
    (∃ ev tx, u.evlog = s.evlog ++ ev ∧ u.txlog = s.txlog ++ tx) ∨ TakesReset s u

/-- R38 (c): between START and the end of the run no instruction but RESET touches the TX space or the encoder latch. -/
def Obligations.LoopNeverWritesToTheSink : Prop :=
  ∀ (i : Instr) (s u : State), s.rxReady = true → i ≠ .reset → exec i s = .next u →
    SameEnc s u ∧ ∀ a, Memory.readByte u a = Memory.readByte s a

/-- R93, R102: the value of a payload byte of any frame but a GOAWAY, and of any byte of a GOAWAY payload once eight are kept,
cannot influence anything. (RX and the requests are the list of inputs of log 2.) -/
def Obligations.DiscardedPayloadDoesNotInfluence : Prop :=
  ∀ (s : State) (b c : Byte) (rest : List Input), s.st = .pay → s.h.type ≠ 0x07#8 ∨ s.gcnt = 8 →
    step { s with env := { s.env with inputs := .rxByte b :: rest } } =
      step { s with env := { s.env with inputs := .rxByte c :: rest } }

/-- R23: every step keeps `tx_pos` the length of TX. -/
def Obligations.EveryStepKeepsTheTxForm : Prop :=
  ∀ s u : State, Memory.wf s = true → step s = .next u → Memory.wf u = true

/-- R123, with R24, R15, R18: the outputs are functions of the registers, with the numeric codes of R11, R19, R20, R22 (D14);
a guarded field shows no value while its valid flag is 0 (log 11); the strobes, and the encoder's combinational outputs in
the form of R71, are those of the last operation (log 5). -/
def Obligations.StatusOutputs : Prop :=
  ∀ s : State,
    (s.ports.done = true ↔ s.st = .done) ∧ (s.ports.fault = true ↔ s.st = .fault) ∧
    (s.ports.rxReady = true ↔ s.st = .hdr ∨ s.st = .pay) ∧
    (s.ports.encReady = true ↔ s.st = .idle ∨ s.st = .done ∨ s.st = .fault) ∧
    s.ports.st = (match s.st with | .idle => 0#3 | .hdr => 1#3 | .pay => 2#3 | .done => 3#3 | .fault => 4#3) ∧
    s.ports.termCause = (match s.termCause with | .none => 0#2 | .goaway => 1#2 | .dataEndStream => 2#2) ∧
    s.ports.faultCause = (match s.faultCause with | .none => 0#2 | .transport => 1#2 | .goawayShort => 2#2) ∧
    s.ports.encStatus =
      (match s.encStatus with | .none => 0#2 | .ok => 1#2 | .precondition => 2#2 | .ioFailure => 3#2) ∧
    s.ports.encErr = s.encErr ∧ s.ports.encDone = s.out.encDone ∧
    s.ports.hdrStrobe = s.out.hdrStrobe ∧ s.ports.gaStrobe = s.out.gaStrobe ∧ s.ports.result = s.out.result ∧
    (∀ b : Vector Byte 9, s.out.result = some (.encHdr (.ok b)) →
      s.ports.enc = some ⟨true, 0#3, some (b[0] ++ b[1] ++ b[2] ++ b[3] ++ b[4] ++ b[5] ++ b[6] ++ b[7] ++ b[8])⟩) ∧
    (∀ e : BitVec 3, s.out.result = some (.encHdr (.err e)) → s.ports.enc = some ⟨false, e, none⟩) ∧
    s.ports.hdr = (if s.hv then some s.h else none) ∧
    s.ports.gaResult = (if s.gaValid then some ⟨s.gaR, s.gaLastSid, s.gaErrRaw, s.gaErrKnown⟩ else none) ∧
    s.ports.fcnt = s.fcnt ∧ s.ports.hv = s.hv ∧ s.ports.gaValid = s.gaValid

/-- R124, R125, R161: the outbound sequence, whatever flags and identifier the host's policy gives, leaves exactly the 45
bytes in TX, in order, before the loop begins. (The preface is an input of its own, log 13.) -/
def Obligations.OutboundSequenceFillsTheSink : Prop :=
  ∀ (fs fh : Byte) (sid : Word32) (supply : Supply), sid.getLsbD 31 = false →
    ∃ u, core.run 4
        { State.reset with env := { State.reset.env with inputs := outboundSequence fs fh sid, supply := supply } } =
          .next u ∧
      u.st = .hdr ∧ u.encStatus = .ok ∧ u.txPos = 45 ∧ u.pos = 0 ∧
      u.txlog = Config.preface ++ [0x00#8, 0x00#8, 0x00#8, 0x04#8, fs, 0x00#8, 0x00#8, 0x00#8, 0x00#8] ++
        [0x00#8, 0x00#8, 0x03#8, 0x01#8, fh, sid.extractLsb' 24 8, sid.extractLsb' 16 8, sid.extractLsb' 8 8,
         sid.extractLsb' 0 8, 0x82#8, 0x84#8, 0x86#8]

/-! ### What the environment may do besides -/

/-- R26 (the model's own form of it, log 26): where no listed input can be taken, the supply's next input is offered behind
them; the step is then as if it had been listed, and only offers it where it cannot be taken yet. -/
def Obligations.SupplyIsTakenLikeAListedInput : Prop :=
  ∀ (s : State) (i : Input) (rest : Supply),
    (∀ j ∈ s.env.inputs, s.enabled j = false) → s.env.supply.draw = some (i, rest) →
    let t := { s with env := { s.env with inputs := s.env.inputs ++ [i], supply := rest } }
    (s.enabled i = true → step s = step t) ∧ (s.enabled i = false → step s = .next t)

/-- R111, with R12, R94, R95: a peer that sends one frame over and over, any one frame but a GOAWAY or an end-stream DATA
frame, and never stops, keeps the run from ending: every step takes a byte, and the loop runs after every number of steps.
(Its form is the supply of log 26.) -/
def Obligations.EndlessPeerKeepsTheRunGoing : Prop :=
  ∀ (s : State) (b : Vector Byte 9) (payload : List Byte),
    let h := decodeHeader b
    s.st = .hdr → s.hcnt = 0 → s.env.inputs = [] → s.env.supply = .cycle [] ((b.toList ++ payload).map .rxByte) →
    payload.length = h.length.toNat → h.type ≠ 0x07#8 → (h.type = 0x00#8 → h.flags.getLsbD 0 = false) →
    ∀ k : Nat, ∃ u, core.run k s = .next u ∧ u.rxReady = true ∧ u.pos = s.pos + k ∧
      u.fcnt = s.fcnt + BitVec.ofNat 32 (k / (9 + payload.length))

/-- R150 (d), R120: RESET wins over anything that happens at the same instant. A byte, an error or a request that comes with
it is not taken and is offered on, ahead of what was waiting (the model's choice of its place, log 27), a START that comes
with it is gone (log 27). -/
def Obligations.ResetWinsOverAnything : Prop :=
  ∀ (s : State) (i : Input) (rest : List Input), s.env.inputs = .resetWith i :: rest →
    step s = .next { State.reset with env := { s.env with inputs := afterReset i ++ rest } } ∧
    (∀ e, afterReset (.request (.start 1#1) e) = []) ∧ (∀ b, afterReset (.rxByte b) = [.rxByte b]) ∧
    afterReset .rxErr = [.rxErr] ∧
    (∀ q payload e, afterReset (.request (.encode q payload) e) = [.request (.encode q payload) e])
end

