-- ==== Sys2Proof/Laws/State.lean ====
section
/-! SUPPORT. The state's updates, field by field, true by rfl: what each named operation of Ops.lean, Rx.lean and Encoder.lean
writes and what it leaves, so that no proof unfolds a record update. -/

namespace Sys2Proof.Machine

/-! ### txWrite -/

@[simp] theorem State.txWrite_st (s : State) (v : List Byte) : (s.txWrite v).st = s.st := rfl
@[simp] theorem State.txWrite_pos (s : State) (v : List Byte) : (s.txWrite v).pos = s.pos := rfl
@[simp] theorem State.txWrite_hcnt (s : State) (v : List Byte) : (s.txWrite v).hcnt = s.hcnt := rfl
@[simp] theorem State.txWrite_hb (s : State) (v : List Byte) : (s.txWrite v).hb = s.hb := rfl
@[simp] theorem State.txWrite_hv (s : State) (v : List Byte) : (s.txWrite v).hv = s.hv := rfl
@[simp] theorem State.txWrite_h (s : State) (v : List Byte) : (s.txWrite v).h = s.h := rfl
@[simp] theorem State.txWrite_prem (s : State) (v : List Byte) : (s.txWrite v).prem = s.prem := rfl
@[simp] theorem State.txWrite_ga (s : State) (v : List Byte) : (s.txWrite v).ga = s.ga := rfl
@[simp] theorem State.txWrite_gcnt (s : State) (v : List Byte) : (s.txWrite v).gcnt = s.gcnt := rfl
@[simp] theorem State.txWrite_gaValid (s : State) (v : List Byte) : (s.txWrite v).gaValid = s.gaValid := rfl
@[simp] theorem State.txWrite_gaR (s : State) (v : List Byte) : (s.txWrite v).gaR = s.gaR := rfl
@[simp] theorem State.txWrite_gaLastSid (s : State) (v : List Byte) : (s.txWrite v).gaLastSid = s.gaLastSid := rfl
@[simp] theorem State.txWrite_gaErrRaw (s : State) (v : List Byte) : (s.txWrite v).gaErrRaw = s.gaErrRaw := rfl
@[simp] theorem State.txWrite_gaErrKnown (s : State) (v : List Byte) : (s.txWrite v).gaErrKnown = s.gaErrKnown := rfl
@[simp] theorem State.txWrite_termCause (s : State) (v : List Byte) : (s.txWrite v).termCause = s.termCause := rfl
@[simp] theorem State.txWrite_faultCause (s : State) (v : List Byte) : (s.txWrite v).faultCause = s.faultCause := rfl
@[simp] theorem State.txWrite_fcnt (s : State) (v : List Byte) : (s.txWrite v).fcnt = s.fcnt := rfl
@[simp] theorem State.txWrite_encStatus (s : State) (v : List Byte) : (s.txWrite v).encStatus = s.encStatus := rfl
@[simp] theorem State.txWrite_encErr (s : State) (v : List Byte) : (s.txWrite v).encErr = s.encErr := rfl
@[simp] theorem State.txWrite_txPos (s : State) (v : List Byte) : (s.txWrite v).txPos = s.txPos + v.length := rfl
@[simp] theorem State.txWrite_txlog (s : State) (v : List Byte) : (s.txWrite v).txlog = s.txlog ++ v := rfl
@[simp] theorem State.txWrite_evlog (s : State) (v : List Byte) : (s.txWrite v).evlog = s.evlog := rfl
@[simp] theorem State.txWrite_env (s : State) (v : List Byte) : (s.txWrite v).env = s.env := rfl
@[simp] theorem State.txWrite_out (s : State) (v : List Byte) : (s.txWrite v).out = s.out := rfl

/-! ### emit -/

@[simp] theorem State.emit_st (s : State) (e : Event) : (s.emit e).st = s.st := rfl
@[simp] theorem State.emit_pos (s : State) (e : Event) : (s.emit e).pos = s.pos := rfl
@[simp] theorem State.emit_hcnt (s : State) (e : Event) : (s.emit e).hcnt = s.hcnt := rfl
@[simp] theorem State.emit_hb (s : State) (e : Event) : (s.emit e).hb = s.hb := rfl
@[simp] theorem State.emit_hv (s : State) (e : Event) : (s.emit e).hv = s.hv := rfl
@[simp] theorem State.emit_h (s : State) (e : Event) : (s.emit e).h = s.h := rfl
@[simp] theorem State.emit_prem (s : State) (e : Event) : (s.emit e).prem = s.prem := rfl
@[simp] theorem State.emit_ga (s : State) (e : Event) : (s.emit e).ga = s.ga := rfl
@[simp] theorem State.emit_gcnt (s : State) (e : Event) : (s.emit e).gcnt = s.gcnt := rfl
@[simp] theorem State.emit_gaValid (s : State) (e : Event) : (s.emit e).gaValid = s.gaValid := rfl
@[simp] theorem State.emit_gaR (s : State) (e : Event) : (s.emit e).gaR = s.gaR := rfl
@[simp] theorem State.emit_gaLastSid (s : State) (e : Event) : (s.emit e).gaLastSid = s.gaLastSid := rfl
@[simp] theorem State.emit_gaErrRaw (s : State) (e : Event) : (s.emit e).gaErrRaw = s.gaErrRaw := rfl
@[simp] theorem State.emit_gaErrKnown (s : State) (e : Event) : (s.emit e).gaErrKnown = s.gaErrKnown := rfl
@[simp] theorem State.emit_termCause (s : State) (e : Event) : (s.emit e).termCause = s.termCause := rfl
@[simp] theorem State.emit_faultCause (s : State) (e : Event) : (s.emit e).faultCause = s.faultCause := rfl
@[simp] theorem State.emit_fcnt (s : State) (e : Event) : (s.emit e).fcnt = s.fcnt := rfl
@[simp] theorem State.emit_encStatus (s : State) (e : Event) : (s.emit e).encStatus = s.encStatus := rfl
@[simp] theorem State.emit_encErr (s : State) (e : Event) : (s.emit e).encErr = s.encErr := rfl
@[simp] theorem State.emit_txPos (s : State) (e : Event) : (s.emit e).txPos = s.txPos := rfl
@[simp] theorem State.emit_txlog (s : State) (e : Event) : (s.emit e).txlog = s.txlog := rfl
@[simp] theorem State.emit_evlog (s : State) (e : Event) : (s.emit e).evlog = s.evlog ++ [e] := rfl
@[simp] theorem State.emit_env (s : State) (e : Event) : (s.emit e).env = s.env := rfl
@[simp] theorem State.emit_header_out (s : State) (h : FrameHeader) : (s.emit (.header h)).out = { s.out with hdrStrobe := true } := rfl
@[simp] theorem State.emit_goaway_out (s : State) (g : GoawayResult) : (s.emit (.goaway g)).out = { s.out with gaStrobe := true } := rfl
@[simp] theorem State.emit_done_out (s : State) (c : TermCause) : (s.emit (.done c)).out = s.out := rfl
@[simp] theorem State.emit_fault_out (s : State) (c : FaultCause) : (s.emit (.fault c)).out = s.out := rfl

/-! ### present -/

@[simp] theorem State.present_st (s : State) (r : OpResult) : (s.present r).st = s.st := rfl
@[simp] theorem State.present_pos (s : State) (r : OpResult) : (s.present r).pos = s.pos := rfl
@[simp] theorem State.present_hcnt (s : State) (r : OpResult) : (s.present r).hcnt = s.hcnt := rfl
@[simp] theorem State.present_hb (s : State) (r : OpResult) : (s.present r).hb = s.hb := rfl
@[simp] theorem State.present_hv (s : State) (r : OpResult) : (s.present r).hv = s.hv := rfl
@[simp] theorem State.present_h (s : State) (r : OpResult) : (s.present r).h = s.h := rfl
@[simp] theorem State.present_prem (s : State) (r : OpResult) : (s.present r).prem = s.prem := rfl
@[simp] theorem State.present_ga (s : State) (r : OpResult) : (s.present r).ga = s.ga := rfl
@[simp] theorem State.present_gcnt (s : State) (r : OpResult) : (s.present r).gcnt = s.gcnt := rfl
@[simp] theorem State.present_gaValid (s : State) (r : OpResult) : (s.present r).gaValid = s.gaValid := rfl
@[simp] theorem State.present_gaR (s : State) (r : OpResult) : (s.present r).gaR = s.gaR := rfl
@[simp] theorem State.present_gaLastSid (s : State) (r : OpResult) : (s.present r).gaLastSid = s.gaLastSid := rfl
@[simp] theorem State.present_gaErrRaw (s : State) (r : OpResult) : (s.present r).gaErrRaw = s.gaErrRaw := rfl
@[simp] theorem State.present_gaErrKnown (s : State) (r : OpResult) : (s.present r).gaErrKnown = s.gaErrKnown := rfl
@[simp] theorem State.present_termCause (s : State) (r : OpResult) : (s.present r).termCause = s.termCause := rfl
@[simp] theorem State.present_faultCause (s : State) (r : OpResult) : (s.present r).faultCause = s.faultCause := rfl
@[simp] theorem State.present_fcnt (s : State) (r : OpResult) : (s.present r).fcnt = s.fcnt := rfl
@[simp] theorem State.present_encStatus (s : State) (r : OpResult) : (s.present r).encStatus = s.encStatus := rfl
@[simp] theorem State.present_encErr (s : State) (r : OpResult) : (s.present r).encErr = s.encErr := rfl
@[simp] theorem State.present_txPos (s : State) (r : OpResult) : (s.present r).txPos = s.txPos := rfl
@[simp] theorem State.present_txlog (s : State) (r : OpResult) : (s.present r).txlog = s.txlog := rfl
@[simp] theorem State.present_evlog (s : State) (r : OpResult) : (s.present r).evlog = s.evlog := rfl
@[simp] theorem State.present_env (s : State) (r : OpResult) : (s.present r).env = s.env := rfl
@[simp] theorem State.present_out (s : State) (r : OpResult) : (s.present r).out = { s.out with result := some r } := rfl

/-! ### raise -/

@[simp] theorem State.raise_st (s : State) (c : FaultCause) : (s.raise c).st = .fault := rfl
@[simp] theorem State.raise_pos (s : State) (c : FaultCause) : (s.raise c).pos = s.pos := rfl
@[simp] theorem State.raise_hcnt (s : State) (c : FaultCause) : (s.raise c).hcnt = 0 := rfl
@[simp] theorem State.raise_hb (s : State) (c : FaultCause) : (s.raise c).hb = s.hb := rfl
@[simp] theorem State.raise_hv (s : State) (c : FaultCause) : (s.raise c).hv = s.hv := rfl
@[simp] theorem State.raise_h (s : State) (c : FaultCause) : (s.raise c).h = s.h := rfl
@[simp] theorem State.raise_prem (s : State) (c : FaultCause) : (s.raise c).prem = s.prem := rfl
@[simp] theorem State.raise_ga (s : State) (c : FaultCause) : (s.raise c).ga = s.ga := rfl
@[simp] theorem State.raise_gcnt (s : State) (c : FaultCause) : (s.raise c).gcnt = s.gcnt := rfl
@[simp] theorem State.raise_gaValid (s : State) (c : FaultCause) : (s.raise c).gaValid = s.gaValid := rfl
@[simp] theorem State.raise_gaR (s : State) (c : FaultCause) : (s.raise c).gaR = s.gaR := rfl
@[simp] theorem State.raise_gaLastSid (s : State) (c : FaultCause) : (s.raise c).gaLastSid = s.gaLastSid := rfl
@[simp] theorem State.raise_gaErrRaw (s : State) (c : FaultCause) : (s.raise c).gaErrRaw = s.gaErrRaw := rfl
@[simp] theorem State.raise_gaErrKnown (s : State) (c : FaultCause) : (s.raise c).gaErrKnown = s.gaErrKnown := rfl
@[simp] theorem State.raise_termCause (s : State) (c : FaultCause) : (s.raise c).termCause = s.termCause := rfl
@[simp] theorem State.raise_faultCause (s : State) (c : FaultCause) : (s.raise c).faultCause = c := rfl
@[simp] theorem State.raise_fcnt (s : State) (c : FaultCause) : (s.raise c).fcnt = s.fcnt := rfl
@[simp] theorem State.raise_encStatus (s : State) (c : FaultCause) : (s.raise c).encStatus = s.encStatus := rfl
@[simp] theorem State.raise_encErr (s : State) (c : FaultCause) : (s.raise c).encErr = s.encErr := rfl
@[simp] theorem State.raise_txPos (s : State) (c : FaultCause) : (s.raise c).txPos = s.txPos := rfl
@[simp] theorem State.raise_txlog (s : State) (c : FaultCause) : (s.raise c).txlog = s.txlog := rfl
@[simp] theorem State.raise_evlog (s : State) (c : FaultCause) : (s.raise c).evlog = s.evlog ++ [.fault c] := rfl
@[simp] theorem State.raise_env (s : State) (c : FaultCause) : (s.raise c).env = s.env := rfl
@[simp] theorem State.raise_out (s : State) (c : FaultCause) : (s.raise c).out = s.out := rfl

/-! ### terminate -/

@[simp] theorem State.terminate_st (s : State) (c : TermCause) : (s.terminate c).st = .done := rfl
@[simp] theorem State.terminate_pos (s : State) (c : TermCause) : (s.terminate c).pos = s.pos := rfl
@[simp] theorem State.terminate_hcnt (s : State) (c : TermCause) : (s.terminate c).hcnt = s.hcnt := rfl
@[simp] theorem State.terminate_hb (s : State) (c : TermCause) : (s.terminate c).hb = s.hb := rfl
@[simp] theorem State.terminate_hv (s : State) (c : TermCause) : (s.terminate c).hv = s.hv := rfl
@[simp] theorem State.terminate_h (s : State) (c : TermCause) : (s.terminate c).h = s.h := rfl
@[simp] theorem State.terminate_prem (s : State) (c : TermCause) : (s.terminate c).prem = s.prem := rfl
@[simp] theorem State.terminate_ga (s : State) (c : TermCause) : (s.terminate c).ga = s.ga := rfl
@[simp] theorem State.terminate_gcnt (s : State) (c : TermCause) : (s.terminate c).gcnt = s.gcnt := rfl
@[simp] theorem State.terminate_gaValid (s : State) (c : TermCause) : (s.terminate c).gaValid = s.gaValid := rfl
@[simp] theorem State.terminate_gaR (s : State) (c : TermCause) : (s.terminate c).gaR = s.gaR := rfl
@[simp] theorem State.terminate_gaLastSid (s : State) (c : TermCause) : (s.terminate c).gaLastSid = s.gaLastSid := rfl
@[simp] theorem State.terminate_gaErrRaw (s : State) (c : TermCause) : (s.terminate c).gaErrRaw = s.gaErrRaw := rfl
@[simp] theorem State.terminate_gaErrKnown (s : State) (c : TermCause) : (s.terminate c).gaErrKnown = s.gaErrKnown := rfl
@[simp] theorem State.terminate_termCause (s : State) (c : TermCause) : (s.terminate c).termCause = c := rfl
@[simp] theorem State.terminate_faultCause (s : State) (c : TermCause) : (s.terminate c).faultCause = s.faultCause := rfl
@[simp] theorem State.terminate_fcnt (s : State) (c : TermCause) : (s.terminate c).fcnt = s.fcnt := rfl
@[simp] theorem State.terminate_encStatus (s : State) (c : TermCause) : (s.terminate c).encStatus = s.encStatus := rfl
@[simp] theorem State.terminate_encErr (s : State) (c : TermCause) : (s.terminate c).encErr = s.encErr := rfl
@[simp] theorem State.terminate_txPos (s : State) (c : TermCause) : (s.terminate c).txPos = s.txPos := rfl
@[simp] theorem State.terminate_txlog (s : State) (c : TermCause) : (s.terminate c).txlog = s.txlog := rfl
@[simp] theorem State.terminate_evlog (s : State) (c : TermCause) : (s.terminate c).evlog = s.evlog ++ [.done c] := rfl
@[simp] theorem State.terminate_env (s : State) (c : TermCause) : (s.terminate c).env = s.env := rfl
@[simp] theorem State.terminate_out (s : State) (c : TermCause) : (s.terminate c).out = s.out := rfl

/-! ### awaitFrame -/

@[simp] theorem State.awaitFrame_st (s : State) : (s.awaitFrame).st = .hdr := rfl
@[simp] theorem State.awaitFrame_pos (s : State) : (s.awaitFrame).pos = s.pos := rfl
@[simp] theorem State.awaitFrame_hcnt (s : State) : (s.awaitFrame).hcnt = s.hcnt := rfl
@[simp] theorem State.awaitFrame_hb (s : State) : (s.awaitFrame).hb = s.hb := rfl
@[simp] theorem State.awaitFrame_hv (s : State) : (s.awaitFrame).hv = s.hv := rfl
@[simp] theorem State.awaitFrame_h (s : State) : (s.awaitFrame).h = s.h := rfl
@[simp] theorem State.awaitFrame_prem (s : State) : (s.awaitFrame).prem = s.prem := rfl
@[simp] theorem State.awaitFrame_ga (s : State) : (s.awaitFrame).ga = s.ga := rfl
@[simp] theorem State.awaitFrame_gcnt (s : State) : (s.awaitFrame).gcnt = s.gcnt := rfl
@[simp] theorem State.awaitFrame_gaValid (s : State) : (s.awaitFrame).gaValid = s.gaValid := rfl
@[simp] theorem State.awaitFrame_gaR (s : State) : (s.awaitFrame).gaR = s.gaR := rfl
@[simp] theorem State.awaitFrame_gaLastSid (s : State) : (s.awaitFrame).gaLastSid = s.gaLastSid := rfl
@[simp] theorem State.awaitFrame_gaErrRaw (s : State) : (s.awaitFrame).gaErrRaw = s.gaErrRaw := rfl
@[simp] theorem State.awaitFrame_gaErrKnown (s : State) : (s.awaitFrame).gaErrKnown = s.gaErrKnown := rfl
@[simp] theorem State.awaitFrame_termCause (s : State) : (s.awaitFrame).termCause = s.termCause := rfl
@[simp] theorem State.awaitFrame_faultCause (s : State) : (s.awaitFrame).faultCause = s.faultCause := rfl
@[simp] theorem State.awaitFrame_fcnt (s : State) : (s.awaitFrame).fcnt = s.fcnt := rfl
@[simp] theorem State.awaitFrame_encStatus (s : State) : (s.awaitFrame).encStatus = s.encStatus := rfl
@[simp] theorem State.awaitFrame_encErr (s : State) : (s.awaitFrame).encErr = s.encErr := rfl
@[simp] theorem State.awaitFrame_txPos (s : State) : (s.awaitFrame).txPos = s.txPos := rfl
@[simp] theorem State.awaitFrame_txlog (s : State) : (s.awaitFrame).txlog = s.txlog := rfl
@[simp] theorem State.awaitFrame_evlog (s : State) : (s.awaitFrame).evlog = s.evlog := rfl
@[simp] theorem State.awaitFrame_env (s : State) : (s.awaitFrame).env = s.env := rfl
@[simp] theorem State.awaitFrame_out (s : State) : (s.awaitFrame).out = s.out := rfl

/-! ### latchGoaway -/

@[simp] theorem State.latchGoaway_st (s : State) (g : GoawayResult) : (s.latchGoaway g).st = s.st := rfl
@[simp] theorem State.latchGoaway_pos (s : State) (g : GoawayResult) : (s.latchGoaway g).pos = s.pos := rfl
@[simp] theorem State.latchGoaway_hcnt (s : State) (g : GoawayResult) : (s.latchGoaway g).hcnt = s.hcnt := rfl
@[simp] theorem State.latchGoaway_hb (s : State) (g : GoawayResult) : (s.latchGoaway g).hb = s.hb := rfl
@[simp] theorem State.latchGoaway_hv (s : State) (g : GoawayResult) : (s.latchGoaway g).hv = s.hv := rfl
@[simp] theorem State.latchGoaway_h (s : State) (g : GoawayResult) : (s.latchGoaway g).h = s.h := rfl
@[simp] theorem State.latchGoaway_prem (s : State) (g : GoawayResult) : (s.latchGoaway g).prem = s.prem := rfl
@[simp] theorem State.latchGoaway_ga (s : State) (g : GoawayResult) : (s.latchGoaway g).ga = s.ga := rfl
@[simp] theorem State.latchGoaway_gcnt (s : State) (g : GoawayResult) : (s.latchGoaway g).gcnt = s.gcnt := rfl
@[simp] theorem State.latchGoaway_gaValid (s : State) (g : GoawayResult) : (s.latchGoaway g).gaValid = true := rfl
@[simp] theorem State.latchGoaway_gaR (s : State) (g : GoawayResult) : (s.latchGoaway g).gaR = g.r := rfl
@[simp] theorem State.latchGoaway_gaLastSid (s : State) (g : GoawayResult) : (s.latchGoaway g).gaLastSid = g.lastSid := rfl
@[simp] theorem State.latchGoaway_gaErrRaw (s : State) (g : GoawayResult) : (s.latchGoaway g).gaErrRaw = g.errRaw := rfl
@[simp] theorem State.latchGoaway_gaErrKnown (s : State) (g : GoawayResult) : (s.latchGoaway g).gaErrKnown = g.errKnown := rfl
@[simp] theorem State.latchGoaway_termCause (s : State) (g : GoawayResult) : (s.latchGoaway g).termCause = s.termCause := rfl
@[simp] theorem State.latchGoaway_faultCause (s : State) (g : GoawayResult) : (s.latchGoaway g).faultCause = s.faultCause := rfl
@[simp] theorem State.latchGoaway_fcnt (s : State) (g : GoawayResult) : (s.latchGoaway g).fcnt = s.fcnt := rfl
@[simp] theorem State.latchGoaway_encStatus (s : State) (g : GoawayResult) : (s.latchGoaway g).encStatus = s.encStatus := rfl
@[simp] theorem State.latchGoaway_encErr (s : State) (g : GoawayResult) : (s.latchGoaway g).encErr = s.encErr := rfl
@[simp] theorem State.latchGoaway_txPos (s : State) (g : GoawayResult) : (s.latchGoaway g).txPos = s.txPos := rfl
@[simp] theorem State.latchGoaway_txlog (s : State) (g : GoawayResult) : (s.latchGoaway g).txlog = s.txlog := rfl
@[simp] theorem State.latchGoaway_evlog (s : State) (g : GoawayResult) : (s.latchGoaway g).evlog = s.evlog ++ [.goaway g] := rfl
@[simp] theorem State.latchGoaway_env (s : State) (g : GoawayResult) : (s.latchGoaway g).env = s.env := rfl
@[simp] theorem State.latchGoaway_out (s : State) (g : GoawayResult) : (s.latchGoaway g).out = { s.out with gaStrobe := true } := rfl

/-! ### latchHeader -/

@[simp] theorem State.latchHeader_st (s : State) (x : FrameHeader) : (s.latchHeader x).st = s.st := rfl
@[simp] theorem State.latchHeader_pos (s : State) (x : FrameHeader) : (s.latchHeader x).pos = s.pos := rfl
@[simp] theorem State.latchHeader_hcnt (s : State) (x : FrameHeader) : (s.latchHeader x).hcnt = 0 := rfl
@[simp] theorem State.latchHeader_hb (s : State) (x : FrameHeader) : (s.latchHeader x).hb = s.hb := rfl
@[simp] theorem State.latchHeader_hv (s : State) (x : FrameHeader) : (s.latchHeader x).hv = true := rfl
@[simp] theorem State.latchHeader_h (s : State) (x : FrameHeader) : (s.latchHeader x).h = x := rfl
@[simp] theorem State.latchHeader_prem (s : State) (x : FrameHeader) : (s.latchHeader x).prem = s.prem := rfl
@[simp] theorem State.latchHeader_ga (s : State) (x : FrameHeader) : (s.latchHeader x).ga = s.ga := rfl
@[simp] theorem State.latchHeader_gcnt (s : State) (x : FrameHeader) : (s.latchHeader x).gcnt = 0 := rfl
@[simp] theorem State.latchHeader_gaValid (s : State) (x : FrameHeader) : (s.latchHeader x).gaValid = s.gaValid := rfl
@[simp] theorem State.latchHeader_gaR (s : State) (x : FrameHeader) : (s.latchHeader x).gaR = s.gaR := rfl
@[simp] theorem State.latchHeader_gaLastSid (s : State) (x : FrameHeader) : (s.latchHeader x).gaLastSid = s.gaLastSid := rfl
@[simp] theorem State.latchHeader_gaErrRaw (s : State) (x : FrameHeader) : (s.latchHeader x).gaErrRaw = s.gaErrRaw := rfl
@[simp] theorem State.latchHeader_gaErrKnown (s : State) (x : FrameHeader) : (s.latchHeader x).gaErrKnown = s.gaErrKnown := rfl
@[simp] theorem State.latchHeader_termCause (s : State) (x : FrameHeader) : (s.latchHeader x).termCause = s.termCause := rfl
@[simp] theorem State.latchHeader_faultCause (s : State) (x : FrameHeader) : (s.latchHeader x).faultCause = s.faultCause := rfl
@[simp] theorem State.latchHeader_fcnt (s : State) (x : FrameHeader) : (s.latchHeader x).fcnt = s.fcnt := rfl
@[simp] theorem State.latchHeader_encStatus (s : State) (x : FrameHeader) : (s.latchHeader x).encStatus = s.encStatus := rfl
@[simp] theorem State.latchHeader_encErr (s : State) (x : FrameHeader) : (s.latchHeader x).encErr = s.encErr := rfl
@[simp] theorem State.latchHeader_txPos (s : State) (x : FrameHeader) : (s.latchHeader x).txPos = s.txPos := rfl
@[simp] theorem State.latchHeader_txlog (s : State) (x : FrameHeader) : (s.latchHeader x).txlog = s.txlog := rfl
@[simp] theorem State.latchHeader_evlog (s : State) (x : FrameHeader) : (s.latchHeader x).evlog = s.evlog ++ [.header x] := rfl
@[simp] theorem State.latchHeader_env (s : State) (x : FrameHeader) : (s.latchHeader x).env = s.env := rfl
@[simp] theorem State.latchHeader_out (s : State) (x : FrameHeader) : (s.latchHeader x).out = { s.out with hdrStrobe := true } := rfl

/-! ### take -/

@[simp] theorem State.take_st (s : State) (rest : List Input) : (s.take rest).st = s.st := rfl
@[simp] theorem State.take_pos (s : State) (rest : List Input) : (s.take rest).pos = s.pos := rfl
@[simp] theorem State.take_hcnt (s : State) (rest : List Input) : (s.take rest).hcnt = s.hcnt := rfl
@[simp] theorem State.take_hb (s : State) (rest : List Input) : (s.take rest).hb = s.hb := rfl
@[simp] theorem State.take_hv (s : State) (rest : List Input) : (s.take rest).hv = s.hv := rfl
@[simp] theorem State.take_h (s : State) (rest : List Input) : (s.take rest).h = s.h := rfl
@[simp] theorem State.take_prem (s : State) (rest : List Input) : (s.take rest).prem = s.prem := rfl
@[simp] theorem State.take_ga (s : State) (rest : List Input) : (s.take rest).ga = s.ga := rfl
@[simp] theorem State.take_gcnt (s : State) (rest : List Input) : (s.take rest).gcnt = s.gcnt := rfl
@[simp] theorem State.take_gaValid (s : State) (rest : List Input) : (s.take rest).gaValid = s.gaValid := rfl
@[simp] theorem State.take_gaR (s : State) (rest : List Input) : (s.take rest).gaR = s.gaR := rfl
@[simp] theorem State.take_gaLastSid (s : State) (rest : List Input) : (s.take rest).gaLastSid = s.gaLastSid := rfl
@[simp] theorem State.take_gaErrRaw (s : State) (rest : List Input) : (s.take rest).gaErrRaw = s.gaErrRaw := rfl
@[simp] theorem State.take_gaErrKnown (s : State) (rest : List Input) : (s.take rest).gaErrKnown = s.gaErrKnown := rfl
@[simp] theorem State.take_termCause (s : State) (rest : List Input) : (s.take rest).termCause = s.termCause := rfl
@[simp] theorem State.take_faultCause (s : State) (rest : List Input) : (s.take rest).faultCause = s.faultCause := rfl
@[simp] theorem State.take_fcnt (s : State) (rest : List Input) : (s.take rest).fcnt = s.fcnt := rfl
@[simp] theorem State.take_encStatus (s : State) (rest : List Input) : (s.take rest).encStatus = s.encStatus := rfl
@[simp] theorem State.take_encErr (s : State) (rest : List Input) : (s.take rest).encErr = s.encErr := rfl
@[simp] theorem State.take_txPos (s : State) (rest : List Input) : (s.take rest).txPos = s.txPos := rfl
@[simp] theorem State.take_txlog (s : State) (rest : List Input) : (s.take rest).txlog = s.txlog := rfl
@[simp] theorem State.take_evlog (s : State) (rest : List Input) : (s.take rest).evlog = s.evlog := rfl
@[simp] theorem State.take_env (s : State) (rest : List Input) : (s.take rest).env = { s.env with inputs := rest } := rfl
@[simp] theorem State.take_out (s : State) (rest : List Input) : (s.take rest).out = .quiet := rfl

/-! ### encComplete -/

@[simp] theorem State.encComplete_st (s : State) (status : EncStatus) (e : BitVec 3) : (s.encComplete status e).st = s.st := rfl
@[simp] theorem State.encComplete_pos (s : State) (status : EncStatus) (e : BitVec 3) : (s.encComplete status e).pos = s.pos := rfl
@[simp] theorem State.encComplete_hcnt (s : State) (status : EncStatus) (e : BitVec 3) : (s.encComplete status e).hcnt = s.hcnt := rfl
@[simp] theorem State.encComplete_hb (s : State) (status : EncStatus) (e : BitVec 3) : (s.encComplete status e).hb = s.hb := rfl
@[simp] theorem State.encComplete_hv (s : State) (status : EncStatus) (e : BitVec 3) : (s.encComplete status e).hv = s.hv := rfl
@[simp] theorem State.encComplete_h (s : State) (status : EncStatus) (e : BitVec 3) : (s.encComplete status e).h = s.h := rfl
@[simp] theorem State.encComplete_prem (s : State) (status : EncStatus) (e : BitVec 3) : (s.encComplete status e).prem = s.prem := rfl
@[simp] theorem State.encComplete_ga (s : State) (status : EncStatus) (e : BitVec 3) : (s.encComplete status e).ga = s.ga := rfl
@[simp] theorem State.encComplete_gcnt (s : State) (status : EncStatus) (e : BitVec 3) : (s.encComplete status e).gcnt = s.gcnt := rfl
@[simp] theorem State.encComplete_gaValid (s : State) (status : EncStatus) (e : BitVec 3) : (s.encComplete status e).gaValid = s.gaValid := rfl
@[simp] theorem State.encComplete_gaR (s : State) (status : EncStatus) (e : BitVec 3) : (s.encComplete status e).gaR = s.gaR := rfl
@[simp] theorem State.encComplete_gaLastSid (s : State) (status : EncStatus) (e : BitVec 3) : (s.encComplete status e).gaLastSid = s.gaLastSid := rfl
@[simp] theorem State.encComplete_gaErrRaw (s : State) (status : EncStatus) (e : BitVec 3) : (s.encComplete status e).gaErrRaw = s.gaErrRaw := rfl
@[simp] theorem State.encComplete_gaErrKnown (s : State) (status : EncStatus) (e : BitVec 3) : (s.encComplete status e).gaErrKnown = s.gaErrKnown := rfl
@[simp] theorem State.encComplete_termCause (s : State) (status : EncStatus) (e : BitVec 3) : (s.encComplete status e).termCause = s.termCause := rfl
@[simp] theorem State.encComplete_faultCause (s : State) (status : EncStatus) (e : BitVec 3) : (s.encComplete status e).faultCause = s.faultCause := rfl
@[simp] theorem State.encComplete_fcnt (s : State) (status : EncStatus) (e : BitVec 3) : (s.encComplete status e).fcnt = s.fcnt := rfl
@[simp] theorem State.encComplete_encStatus (s : State) (status : EncStatus) (e : BitVec 3) : (s.encComplete status e).encStatus = status := rfl
@[simp] theorem State.encComplete_encErr (s : State) (status : EncStatus) (e : BitVec 3) : (s.encComplete status e).encErr = e := rfl
@[simp] theorem State.encComplete_txPos (s : State) (status : EncStatus) (e : BitVec 3) : (s.encComplete status e).txPos = s.txPos := rfl
@[simp] theorem State.encComplete_txlog (s : State) (status : EncStatus) (e : BitVec 3) : (s.encComplete status e).txlog = s.txlog := rfl
@[simp] theorem State.encComplete_evlog (s : State) (status : EncStatus) (e : BitVec 3) : (s.encComplete status e).evlog = s.evlog := rfl
@[simp] theorem State.encComplete_env (s : State) (status : EncStatus) (e : BitVec 3) : (s.encComplete status e).env = s.env := rfl
@[simp] theorem State.encComplete_out (s : State) (status : EncStatus) (e : BitVec 3) : (s.encComplete status e).out = { s.out with encDone := true } := rfl

/-! ### capture -/

@[simp] theorem State.capture_st (s : State) (b : Byte) : (s.capture b).st = s.st := by
  unfold State.capture
  split <;> [split <;> rfl; rfl]
@[simp] theorem State.capture_pos (s : State) (b : Byte) : (s.capture b).pos = s.pos := by
  unfold State.capture
  split <;> [split <;> rfl; rfl]
@[simp] theorem State.capture_hcnt (s : State) (b : Byte) : (s.capture b).hcnt = s.hcnt := by
  unfold State.capture
  split <;> [split <;> rfl; rfl]
@[simp] theorem State.capture_hb (s : State) (b : Byte) : (s.capture b).hb = s.hb := by
  unfold State.capture
  split <;> [split <;> rfl; rfl]
@[simp] theorem State.capture_hv (s : State) (b : Byte) : (s.capture b).hv = s.hv := by
  unfold State.capture
  split <;> [split <;> rfl; rfl]
@[simp] theorem State.capture_h (s : State) (b : Byte) : (s.capture b).h = s.h := by
  unfold State.capture
  split <;> [split <;> rfl; rfl]
@[simp] theorem State.capture_prem (s : State) (b : Byte) : (s.capture b).prem = s.prem := by
  unfold State.capture
  split <;> [split <;> rfl; rfl]
@[simp] theorem State.capture_gaValid (s : State) (b : Byte) : (s.capture b).gaValid = s.gaValid := by
  unfold State.capture
  split <;> [split <;> rfl; rfl]
@[simp] theorem State.capture_gaR (s : State) (b : Byte) : (s.capture b).gaR = s.gaR := by
  unfold State.capture
  split <;> [split <;> rfl; rfl]
@[simp] theorem State.capture_gaLastSid (s : State) (b : Byte) : (s.capture b).gaLastSid = s.gaLastSid := by
  unfold State.capture
  split <;> [split <;> rfl; rfl]
@[simp] theorem State.capture_gaErrRaw (s : State) (b : Byte) : (s.capture b).gaErrRaw = s.gaErrRaw := by
  unfold State.capture
  split <;> [split <;> rfl; rfl]
@[simp] theorem State.capture_gaErrKnown (s : State) (b : Byte) : (s.capture b).gaErrKnown = s.gaErrKnown := by
  unfold State.capture
  split <;> [split <;> rfl; rfl]
@[simp] theorem State.capture_termCause (s : State) (b : Byte) : (s.capture b).termCause = s.termCause := by
  unfold State.capture
  split <;> [split <;> rfl; rfl]
@[simp] theorem State.capture_faultCause (s : State) (b : Byte) : (s.capture b).faultCause = s.faultCause := by
  unfold State.capture
  split <;> [split <;> rfl; rfl]
@[simp] theorem State.capture_fcnt (s : State) (b : Byte) : (s.capture b).fcnt = s.fcnt := by
  unfold State.capture
  split <;> [split <;> rfl; rfl]
@[simp] theorem State.capture_encStatus (s : State) (b : Byte) : (s.capture b).encStatus = s.encStatus := by
  unfold State.capture
  split <;> [split <;> rfl; rfl]
@[simp] theorem State.capture_encErr (s : State) (b : Byte) : (s.capture b).encErr = s.encErr := by
  unfold State.capture
  split <;> [split <;> rfl; rfl]
@[simp] theorem State.capture_txPos (s : State) (b : Byte) : (s.capture b).txPos = s.txPos := by
  unfold State.capture
  split <;> [split <;> rfl; rfl]
@[simp] theorem State.capture_txlog (s : State) (b : Byte) : (s.capture b).txlog = s.txlog := by
  unfold State.capture
  split <;> [split <;> rfl; rfl]
@[simp] theorem State.capture_evlog (s : State) (b : Byte) : (s.capture b).evlog = s.evlog := by
  unfold State.capture
  split <;> [split <;> rfl; rfl]
@[simp] theorem State.capture_env (s : State) (b : Byte) : (s.capture b).env = s.env := by
  unfold State.capture
  split <;> [split <;> rfl; rfl]
@[simp] theorem State.capture_out (s : State) (b : Byte) : (s.capture b).out = s.out := by
  unfold State.capture
  split <;> [split <;> rfl; rfl]

end Sys2Proof.Machine
end

