-- ==== Sys2Proof/Laws/Ops.lean ====
section
/-! SUPPORT. One lemma per shared operation: what it can do, said once, for proofs to cite instead of unfolding it. -/

namespace Sys2Proof.Machine

/-! ### The end of a frame -/

theorem State.frameComplete_of_ready {s : State} (hr : s.rxReady = true) (d : State → State) :
    s.frameComplete d = d { s with fcnt := s.fcnt + 1#32 } := by
  simp [State.frameComplete, hr]

theorem State.frameComplete_of_not_ready {s : State} (hr : s.rxReady = false) (d : State → State) :
    s.frameComplete d = s := by
  simp [State.frameComplete, hr]

theorem State.rxReady_iff (s : State) : s.rxReady = true ↔ s.st = .hdr ∨ s.st = .pay := by
  cases h : s.st <;> simp [State.rxReady, h]

theorem State.encReady_eq (s : State) : s.encReady = !s.rxReady := by
  cases h : s.st <;> simp [State.encReady, State.rxReady, h]

/-! ### The TX space -/

/-- Everything a write to the sink can do: a prefix of `f` is appended, all of it exactly when the flag says so or the
flag is low and the sink failed. -/
theorem State.sinkWrite_cases (s : State) (f : List Byte) :
    (s.env.txErr = none ∧ s.sinkWrite f = (s.txWrite f, true)) ∨
    ∃ k, s.env.txErr = some k ∧ s.sinkWrite f = (s.txWrite (f.take (k % f.length)), f.isEmpty) := by
  cases h : s.env.txErr with
  | none => exact .inl ⟨rfl, by simp [State.sinkWrite, h]⟩
  | some k => exact .inr ⟨k, rfl, by simp [State.sinkWrite, h]⟩

/-- A write to the sink is a TX append of some bytes. -/
theorem State.sinkWrite_state (s : State) (f : List Byte) : ∃ v, (s.sinkWrite f).1 = s.txWrite v := by
  obtain ⟨_, h⟩ | ⟨_, _, h⟩ := s.sinkWrite_cases f <;> rw [h] <;> exact ⟨_, rfl⟩

theorem Memory.wf_iff (s : State) : Memory.wf s = true ↔ s.txPos = s.txlog.length := by
  simp [Memory.wf]

theorem Memory.wf_reset : Memory.wf State.reset = true := by decide

theorem Memory.wf_txWrite {s : State} (h : Memory.wf s = true) (v : List Byte) : Memory.wf (s.txWrite v) = true := by
  rw [Memory.wf_iff] at *
  simp [h]

theorem Memory.wf_sinkWrite {s : State} (h : Memory.wf s = true) (f : List Byte) : Memory.wf (s.sinkWrite f).1 = true := by
  obtain ⟨v, hv⟩ := s.sinkWrite_state f
  rw [hv]
  exact Memory.wf_txWrite h v

theorem Memory.wf_emitFrame {s : State} (h : Memory.wf s = true) (hdr : Vector Byte 9) (payload : List Byte) :
    Memory.wf (s.emitFrame hdr payload) = true := by
  have := Memory.wf_sinkWrite h (hdr.toList ++ payload)
  simpa [State.emitFrame, Memory.wf] using this

/-- A byte already in TX is never changed by an append. -/
theorem Memory.readByte_txWrite {s : State} (v : List Byte) {a : Nat} (ha : a < s.txlog.length) :
    Memory.readByte (s.txWrite v) a = Memory.readByte s a := by
  simp [Memory.readByte, List.getElem?_append_left ha]

/-- The bytes of an append read back, in order, from the old end of TX. -/
theorem Memory.readByte_txWrite_new (s : State) (v : List Byte) (i : Nat) :
    Memory.readByte (s.txWrite v) (s.txlog.length + i) = v[i]? := by
  simp [Memory.readByte, List.getElem?_append_right]

/-! ### The byte steps -/

/-- A header byte before the ninth (R92). -/
theorem headerByte_collect {s : State} (b : Byte) (h : s.hcnt < 8) :
    headerByte s b = { state := { s with hb := s.hb.set s.hcnt b, pos := s.pos + 1, hcnt := s.hcnt + 1 }, complete := none } := by
  simp [headerByte, h]

/-- The ninth header byte (R92). -/
theorem headerByte_ninth {s : State} (b : Byte) (h : s.hcnt = 8) :
    headerByte s b =
      let x := decodeHeader (s.hb.set 8 b)
      let t := { s with hb := s.hb.set 8 b, pos := s.pos + 1 }.latchHeader x
      if x.length = 0#24 then { state := t, complete := some x }
      else { state := { t with prem := x.length, st := .pay }, complete := none } := by
  obtain ⟨⟩ := s
  subst h
  rfl

/-- A payload byte before the last (R93). -/
theorem payloadByte_more {s : State} (b : Byte) (h : s.prem ≠ 1#24) :
    payloadByte s b =
      let t := { s with pos := s.pos + 1 }.capture b
      { state := { t with prem := s.prem - 1#24 }, complete := none } := by
  unfold payloadByte
  simp only [State.capture_prem, h, if_false]

/-- The last payload byte (R93). -/
theorem payloadByte_last {s : State} (b : Byte) (h : s.prem = 1#24) :
    payloadByte s b =
      let t := { s with pos := s.pos + 1 }.capture b
      { state := { t with prem := 0#24 }, complete := some s.h } := by
  unfold payloadByte
  simp only [State.capture_prem, State.capture_h, h, if_true]

/-- The payload byte of any frame but a GOAWAY is discarded (R93). -/
theorem State.capture_other {s : State} (b : Byte) (h : s.h.type ≠ 0x07#8) : s.capture b = s := by
  simp [State.capture, h]

/-- Capture writes `GA` and `gcnt` only (R93). -/
theorem State.capture_cases (s : State) (b : Byte) :
    s.capture b = s ∨ ∃ h : s.gcnt.val < 8, s.capture b = { s with ga := s.ga.set s.gcnt.val b, gcnt := s.gcnt + 1 } := by
  unfold State.capture
  split
  · split
    · rename_i h
      exact .inr ⟨h, rfl⟩
    · exact .inl rfl
  · exact .inl rfl

theorem rxError_of_ready {s : State} (hr : s.rxReady = true) : rxError s = s.raise .transport := by
  simp [rxError, hr]

/-! ### Which input is taken -/

theorem takeFirst_eq_none {p : Input → Bool} {l : List Input} (h : ∀ i ∈ l, p i = false) : takeFirst p l = none := by
  induction l with
  | nil => rfl
  | cons i rest ih => simp [takeFirst, h i (by simp), ih fun j hj => h j (by simp [hj])]

/-- Everything the choice of an input can do. -/
theorem takeFirst_some {p : Input → Bool} {l : List Input} {i : Input} {others : List Input}
    (h : takeFirst p l = some (i, others)) :
    ∃ pre post, l = pre ++ i :: post ∧ others = pre ++ post ∧ p i = true ∧ ∀ j ∈ pre, p j = false := by
  induction l generalizing others with
  | nil => simp [takeFirst] at h
  | cons j rest ih =>
    simp only [takeFirst] at h
    split at h
    · rename_i hj
      obtain ⟨rfl, rfl⟩ := by simpa using h
      exact ⟨[], _, rfl, rfl, hj, by simp⟩
    · rename_i hj
      simp only [Option.map_eq_some_iff, Prod.mk.injEq, Prod.exists] at h
      obtain ⟨k, os, hk, rfl, rfl⟩ := h
      obtain ⟨pre, post, rfl, rfl, hp, hpre⟩ := ih hk
      exact ⟨j :: pre, post, rfl, rfl, hp, by simpa using ⟨by simpa using hj, hpre⟩⟩

theorem takeFirst_head {p : Input → Bool} {i : Input} {rest : List Input} (h : p i = true) :
    takeFirst p (i :: rest) = some (i, rest) := by
  simp [takeFirst, h]

/-! ### One step -/

theorem step_wait {s : State} (h : fetch s = .wait) : step s = .next s := by simp [step, h]

theorem step_moved {s t : State} (h : fetch s = .moved t) : step s = .next t := by simp [step, h]

theorem step_run {s t : State} {i : Instr} (h : fetch s = .run i t) : step s = exec i t := by simp [step, h]

/-- Where a listed input is enabled, that is what a step takes. -/
theorem fetch_listed {s : State} {f : Fetched} (h : s.takeListed = some f) : fetch s = f := by simp [fetch, h]

/-- Where none is enabled and nothing is supplied, the block waits. -/
theorem fetch_wait {s : State} (h : s.takeListed = none) (hd : s.drawn = none) : fetch s = .wait := by simp [fetch, h, hd]

/-- Where none is enabled, the supply's next input is looked at behind them. -/
theorem fetch_drawn {s t : State} (h : s.takeListed = none) (hd : s.drawn = some t) :
    fetch s = t.takeListed.getD (.moved t) := by simp [fetch, h, hd]

theorem State.takeListed_none {s : State} (h : ∀ i ∈ s.env.inputs, s.enabled i = false) : s.takeListed = none := by
  simp [State.takeListed, takeFirst_eq_none h]

/-- Everything the taking of a listed input can be. -/
theorem State.takeListed_some {s : State} {f : Fetched} (h : s.takeListed = some f) :
    ∃ pre post i, s.env.inputs = pre ++ i :: post ∧ s.enabled i = true ∧ (∀ j ∈ pre, s.enabled j = false) ∧
      f = accept (s.take (pre ++ post)) i := by
  simp only [State.takeListed, Option.map_eq_some_iff, Prod.exists] at h
  obtain ⟨i, rest, h, rfl⟩ := h
  obtain ⟨pre, post, hl, rfl, he, hp⟩ := takeFirst_some h
  exact ⟨pre, post, i, hl, he, hp, rfl⟩

/-- What drawing from the supply changes: the environment alone. -/
theorem State.drawn_some {s t : State} (h : s.drawn = some t) :
    ∃ i rest, s.env.supply.draw = some (i, rest) ∧
      t = { s with env := { s.env with inputs := s.env.inputs ++ [i], supply := rest } } := by
  simp only [State.drawn, Option.map_eq_some_iff, Prod.exists] at h
  obtain ⟨i, rest, h, rfl⟩ := h
  exact ⟨i, rest, h, rfl⟩

theorem State.drawn_none {s : State} (h : s.env.supply.draw = none) : s.drawn = none := by simp [State.drawn, h]

/-- The input at the head of the list, if it is enabled, is the one taken. -/
theorem fetch_head {s : State} {i : Input} {rest : List Input} (hi : s.env.inputs = i :: rest) (he : s.enabled i = true) :
    fetch s = accept (s.take rest) i :=
  fetch_listed (by simp [State.takeListed, hi, takeFirst_head he])

/-- What the taking of an RX byte makes of its transfer. -/
def Transfer.fetched (t : Transfer) : Fetched :=
  match t.complete with
  | none => .moved t.state
  | some h => .run (instrOfHeader h) t.state

theorem accept_rxByte_hdr {s : State} (b : Byte) (h : s.st = .hdr) : accept s (.rxByte b) = (headerByte s b).fetched := by
  simp only [accept, rxByte, h]
  rfl

theorem accept_rxByte_pay {s : State} (b : Byte) (h : s.st = .pay) : accept s (.rxByte b) = (payloadByte s b).fetched := by
  simp only [accept, rxByte, h]
  rfl

theorem accept_request {s : State} {w : HostWord} {i : Instr} (e : Option Nat) (h : decode (.host w) = .ok i) :
    accept s (.request w e) = .run i { s with env := { s.env with txErr := e } } := by
  simp only [accept, h]

/-- Everything a fetch can do: wait, offer an input that cannot be taken yet, or take one enabled input out of the list. -/
theorem fetch_cases (s : State) :
    fetch s = .wait ∨ (∃ t, s.drawn = some t ∧ fetch s = .moved t) ∨
    ∃ t pre post i, Offers s t ∧ t.env.inputs = pre ++ i :: post ∧ t.enabled i = true ∧
      fetch s = accept (t.take (pre ++ post)) i := by
  cases h : s.takeListed with
  | some f =>
    obtain ⟨pre, post, i, hl, he, _, rfl⟩ := State.takeListed_some h
    exact .inr (.inr ⟨s, pre, post, i, .inl rfl, hl, he, fetch_listed h⟩)
  | none =>
    cases hd : s.drawn with
    | none => exact .inl (fetch_wait h hd)
    | some t =>
      rw [fetch_drawn h hd]
      cases ht : t.takeListed with
      | none => exact .inr (.inl ⟨t, rfl, rfl⟩)
      | some f =>
        obtain ⟨pre, post, i, hl, he, _, rfl⟩ := State.takeListed_some ht
        exact .inr (.inr ⟨t, pre, post, i, .inr hd, hl, he, rfl⟩)

/-- Everything a step that answers a next state can do: wait, a transfer, or an instruction. -/
theorem step_cases {s t : State} (h : step s = .next t) :
    (fetch s = .wait ∧ t = s) ∨ fetch s = .moved t ∨ ∃ i u, fetch s = .run i u ∧ exec i u = .next t := by
  unfold step at h
  split at h
  · rename_i hf
    exact .inl ⟨hf, by simpa using h.symm⟩
  · rename_i u hf
    exact .inr (.inl (by simpa using by rw [hf]; simpa using h))
  · rename_i i u hf
    exact .inr (.inr ⟨i, u, hf, h⟩)

/-! ### Instructions -/

/-- What a frame instruction does when it completes (R94): DATA and GOAWAY have dispatches of their own. -/
def frameDispatch (h : FrameHeader) : State → State :=
  if h.type = 0x07#8 then dispatchGoaway h.length
  else if h.type = 0x00#8 then dispatchData h.flags
  else State.awaitFrame

/-- An instruction chosen by a test answers what both choices answer. -/
theorem exec_ite {c : Prop} [Decidable c] {i j : Instr} {s : State} {o : Result} (hi : exec i s = o) (hj : exec j s = o) :
    exec (if c then i else j) s = o := by
  split <;> assumption

theorem exec_instrOfHeader (h : FrameHeader) (s : State) :
    exec (instrOfHeader h) s = .next (s.frameComplete (frameDispatch h)) := by
  unfold instrOfHeader frameDispatch
  by_cases h7 : h.type = 0x07#8
  · simp [h7, exec, execGoaway]
  · by_cases h0 : h.type = 0x00#8
    · simp [h0, exec, execData]
    · simp only [h7, h0, if_false]
      repeat' apply exec_ite
      all_goals rfl

/-- Everything ENCODE can do (R73, R122, R167): show its combinational outputs and, where it is accepted, refuse, stall, or emit
the frame. -/
theorem execEncode_cases (type flags : Byte) (r : Bit) (sid plen : Word32) (payload : List Byte) (s : State) :
    let t := s.present (.encHdr (encodeHeader type flags r sid plen))
    let o := execEncode type flags r sid plen payload s
    (s.encReady = false ∧ o = .next t) ∨
    (s.encReady = true ∧ ∃ e, encodeHeader type flags r sid plen = .err e ∧ o = .next (t.encComplete .precondition e)) ∨
    (s.encReady = true ∧ ∃ hdr, encodeHeader type flags r sid plen = .ok hdr ∧
      ((s.env.plPort ++ payload).length < plen.toNat ∧ o = .fault .payloadStarved ∨
       plen.toNat ≤ (s.env.plPort ++ payload).length ∧
        o = .next ({ t with env := { s.env with plPort := (s.env.plPort ++ payload).drop plen.toNat } }.emitFrame hdr
          ((s.env.plPort ++ payload).take plen.toNat)))) := by
  intro t o
  have key : o = if s.encReady then
      match encodeHeader type flags r sid plen with
      | .err e => .next (t.encComplete .precondition e)
      | .ok hdr =>
        if (s.env.plPort ++ payload).length < plen.toNat then .fault .payloadStarved
        else .next ({ t with env := { s.env with plPort := (s.env.plPort ++ payload).drop plen.toNat } }.emitFrame hdr
          ((s.env.plPort ++ payload).take plen.toNat))
    else .next t := rfl
  clear_value t o
  subst key
  cases s.encReady with
  | false => simp
  | true =>
    cases encodeHeader type flags r sid plen with
    | err e => simp
    | ok hdr =>
      refine .inr (.inr ⟨rfl, hdr, rfl, ?_⟩)
      by_cases hl : (s.env.plPort ++ payload).length < plen.toNat
      · exact .inl ⟨hl, by simp only [if_true, hl]⟩
      · exact .inr ⟨by omega, by simp only [if_true, hl, if_false]⟩

/-- Every frame instruction answers a next state, and only the read loop lets it do anything. -/
theorem exec_frame_next {i : Instr} {h : FrameHeader} (hi : i.header = some h) (s : State) : ∃ t, exec i s = .next t := by
  cases i <;> first | exact ⟨_, rfl⟩ | simp [Instr.header] at hi

end Sys2Proof.Machine
end

