-- ==== Sys2Proof/Laws/PerInstr.lean ====
section
/-! SUPPORT. The opcode table, per instruction: the word of a well-formed instruction lies in its own row
(30_encoding.md R53 for the frames, R60 and R61 for the ports). -/

namespace Sys2Proof.Laws.OpcodeRow

/-- The type byte of a header word, `H[47:40]` (R51). -/
def typeByte (w : HeaderWord) : Byte := w.extractLsb' 40 8

/-- A word lies in the frame row with this match and mask, both of `H[47:40]` (R53). -/
def InFrameRow (mask value : Byte) : InstrWord → Prop
  | .frame w => typeByte w &&& mask = value
  | .host _ => False

/-- A word stands on a port that `onPort` accepts (R61). -/
def OnPort (onPort : HostWord → Bool) : InstrWord → Prop
  | .frame _ => False
  | .host w => onPort w = true

/-- The row of an instruction's constructor. -/
def Row : Instr → InstrWord → Prop
  | .data _ _ _ _ => InFrameRow 0xFF#8 0x00#8
  | .headers _ _ _ _ => InFrameRow 0xFF#8 0x01#8
  | .priority _ _ _ _ => InFrameRow 0xFF#8 0x02#8
  | .rstStream _ _ _ _ => InFrameRow 0xFF#8 0x03#8
  | .settings _ _ _ _ => InFrameRow 0xFF#8 0x04#8
  | .pushPromise _ _ _ _ => InFrameRow 0xFF#8 0x05#8
  | .ping _ _ _ _ => InFrameRow 0xFF#8 0x06#8
  | .goaway _ _ _ _ => InFrameRow 0xFF#8 0x07#8
  | .windowUpdate _ _ _ _ => InFrameRow 0xFF#8 0x08#8
  | .continuation _ _ _ _ => InFrameRow 0xFF#8 0x09#8
  | .unknown0A _ _ _ _ _ => InFrameRow 0xFE#8 0x0A#8
  | .unknown0C _ _ _ _ _ => InFrameRow 0xFC#8 0x0C#8
  | .unknown10 _ _ _ _ _ => InFrameRow 0xF0#8 0x10#8
  | .unknown20 _ _ _ _ _ => InFrameRow 0xE0#8 0x20#8
  | .unknown40 _ _ _ _ _ => InFrameRow 0xC0#8 0x40#8
  | .unknown80 _ _ _ _ _ => InFrameRow 0x80#8 0x80#8
  | .encHdr _ _ _ _ _ => OnPort fun | .encHdr _ => true | _ => false
  | .encode _ _ _ _ plen _ => OnPort fun
    | .encode q payload => payload.length == (q.extractLsb' 0 32).toNat && q.extractLsb' 0 32 == plen
    | _ => false
  | .decode _ => OnPort fun | .decode _ => true | _ => false
  | .typeClassify _ => OnPort fun | .typeClassify _ => true | _ => false
  | .flagsTrunc _ => OnPort fun | .flagsTrunc _ => true | _ => false
  | .flagsUnion _ _ => OnPort fun | .flagsUnion _ => true | _ => false
  | .flagsContains _ _ => OnPort fun | .flagsContains _ => true | _ => false
  | .goawayParse _ => OnPort fun | .goawayParse _ => true | _ => false
  | .errcodeDecode _ => OnPort fun | .errcodeDecode _ => true | _ => false
  | .reset => OnPort fun | .rst w => w == 1#1 | _ => false
  | .start => OnPort fun | .start w => w == 1#1 | _ => false

/-- Said of every instruction. -/
def Statement (i : Instr) : Prop := i.wf = true → Row i (encode i)

/-- The header word carries the type in `H[47:40]`. -/
theorem typeByte_headerWord (h : FrameHeader) : typeByte (headerWord h) = h.type := by
  apply BitVec.eq_of_getLsbD_eq
  intro i hi
  simp only [typeByte, headerWord, BitVec.getLsbD_append, BitVec.getLsbD_extractLsb']
  interval_cases i <;> simp

/-- The operand bundle carries `enc_plen` in its low 32 bits. -/
theorem plen_operandQ (t f : Byte) (r : Bit) (s n : Word32) : (operandQ t f r s n).extractLsb' 0 32 = n := by
  apply BitVec.eq_of_getLsbD_eq
  intro i hi
  simp only [operandQ, BitVec.getLsbD_append, BitVec.getLsbD_extractLsb']
  simp [hi]

/-- A frame of a row that fixes the whole type byte. -/
theorem knownRow (h : FrameHeader) : InFrameRow 0xFF#8 h.type (.frame (headerWord h)) := by
  rw [InFrameRow, typeByte_headerWord]
  exact BitVec.and_allOnes

/-- A frame of an UNKNOWN row: well-formedness says its type byte agrees with the row. -/
theorem unknownRow {mask value : Byte} {h : FrameHeader} (hw : typeInRow mask value h.type = true) :
    InFrameRow mask value (.frame (headerWord h)) := by
  rw [InFrameRow, typeByte_headerWord]
  simpa [typeInRow] using hw

theorem data (l : Len) (f : Byte) (r : Bit) (s : Sid) : Statement (.data l f r s) := fun _ => knownRow _

theorem headers (l : Len) (f : Byte) (r : Bit) (s : Sid) : Statement (.headers l f r s) := fun _ => knownRow _

theorem priority (l : Len) (f : Byte) (r : Bit) (s : Sid) : Statement (.priority l f r s) := fun _ => knownRow _

theorem rstStream (l : Len) (f : Byte) (r : Bit) (s : Sid) : Statement (.rstStream l f r s) := fun _ => knownRow _

theorem settings (l : Len) (f : Byte) (r : Bit) (s : Sid) : Statement (.settings l f r s) := fun _ => knownRow _

theorem pushPromise (l : Len) (f : Byte) (r : Bit) (s : Sid) : Statement (.pushPromise l f r s) := fun _ => knownRow _

theorem ping (l : Len) (f : Byte) (r : Bit) (s : Sid) : Statement (.ping l f r s) := fun _ => knownRow _

theorem goaway (l : Len) (f : Byte) (r : Bit) (s : Sid) : Statement (.goaway l f r s) := fun _ => knownRow _

theorem windowUpdate (l : Len) (f : Byte) (r : Bit) (s : Sid) : Statement (.windowUpdate l f r s) := fun _ => knownRow _

theorem continuation (l : Len) (f : Byte) (r : Bit) (s : Sid) : Statement (.continuation l f r s) := fun _ => knownRow _

theorem unknown0A (t : Byte) (l : Len) (f : Byte) (r : Bit) (s : Sid) : Statement (.unknown0A t l f r s) := fun hw => unknownRow hw

theorem unknown0C (t : Byte) (l : Len) (f : Byte) (r : Bit) (s : Sid) : Statement (.unknown0C t l f r s) := fun hw => unknownRow hw

theorem unknown10 (t : Byte) (l : Len) (f : Byte) (r : Bit) (s : Sid) : Statement (.unknown10 t l f r s) := fun hw => unknownRow hw

theorem unknown20 (t : Byte) (l : Len) (f : Byte) (r : Bit) (s : Sid) : Statement (.unknown20 t l f r s) := fun hw => unknownRow hw

theorem unknown40 (t : Byte) (l : Len) (f : Byte) (r : Bit) (s : Sid) : Statement (.unknown40 t l f r s) := fun hw => unknownRow hw

theorem unknown80 (t : Byte) (l : Len) (f : Byte) (r : Bit) (s : Sid) : Statement (.unknown80 t l f r s) := fun hw => unknownRow hw

theorem encHdr (t f : Byte) (r : Bit) (s n : Word32) : Statement (.encHdr t f r s n) := fun _ => rfl

theorem encode (t f : Byte) (r : Bit) (s n : Word32) (payload : List Byte) : Statement (.encode t f r s n payload) := by
  intro hw
  simpa [Row, OnPort, Sys2Proof.encode, plen_operandQ, Instr.wf] using hw

theorem decode (w : HeaderWord) : Statement (.decode w) := fun _ => rfl

theorem typeClassify (t : Byte) : Statement (.typeClassify t) := fun _ => rfl

theorem flagsTrunc (v : Byte) : Statement (.flagsTrunc v) := fun _ => rfl

theorem flagsUnion (a b : Byte) : Statement (.flagsUnion a b) := fun _ => rfl

theorem flagsContains (v f : Byte) : Statement (.flagsContains v f) := fun _ => rfl

theorem goawayParse (g : GoawayWord) : Statement (.goawayParse g) := fun _ => rfl

theorem errcodeDecode (e : Word32) : Statement (.errcodeDecode e) := fun _ => rfl

theorem reset : Statement .reset := fun _ => rfl

theorem start : Statement .start := fun _ => rfl

end Sys2Proof.Laws.OpcodeRow
end

