-- ==== Sys2Proof/Tests/Slice0.lean ====
section
/-! SUPPORT. The model's own tests. Expected values are the spec's vectors (95_test_vectors.md, by their names S, E, DV, T, F,
G, X, L, TF, CT, P) or words written out from 30_encoding.md; each is one instruction or one step. The `witness_` theorems show
that the hypotheses of an obligation can be met together, one for each clause. -/

namespace Sys2Proof.Tests

open Sys2Proof.Machine

/-! ### Helpers -/

/-- The instruction or step answers a next state, and `p` holds of it. -/
def onNext (o : Result) (p : State → Bool) : Bool :=
  match o with
  | .next s => p s
  | .fault _ => false
  | .refused _ => false

/-- A combinational operation answers `r`, from reset. -/
def answers (i : Instr) (r : OpResult) : Bool := onNext (exec i State.reset) fun s => s.out.result == some r

/-- The decoder's answer on a word is `i`. -/
def decodesTo (w : InstrWord) (i : Instr) : Bool :=
  match decode w with
  | .ok j => j == i
  | .error _ => false

/-- The read loop between two frames (`st = HDR`, `hcnt = 0`). -/
def loop : State := { State.reset with st := .hdr }

/-- Inside the payload of a frame with header `h`, `prem` bytes to come, `gcnt` bytes captured. -/
def inPayload (h : FrameHeader) (prem : Len) (gcnt : Fin 9) (ga : Vector Byte 8) : State :=
  { State.reset with st := .pay, hv := true, h := h, prem := prem, gcnt := gcnt, ga := ga }

/-- `s` with these inputs to come. -/
def given (s : State) (inputs : List Input) : State := { s with env := { s.env with inputs := inputs } }

/-- `s` with what the outside goes on to do. -/
def supplied (s : State) (supply : Supply) : State := { s with env := { s.env with supply := supply } }

/-- `s` with the sink's answer. -/
def sinkFails (s : State) (k : Nat) : State := { s with env := { s.env with txErr := some k } }

/-- A run that has ended with DATA_END_STREAM. -/
def ended : State := { State.reset with st := .done, termCause := .dataEndStream }

/-- A run that has failed with TRANSPORT. -/
def failedRun : State := { State.reset with st := .fault, faultCause := .transport }

/-- The step places the frame's last byte (log 4), and the next state is as `p` says. -/
def afterFrameWord (w : Nat) (p : State → Bool) : Bool := onNext (step (State.reset.withFetchWord 72 w)) p

/-- A frame that is counted, with the loop going on (R96 to R101, R103 to R105). -/
def goesOn (s : State) : Bool := s.st == .hdr && s.hcnt == 0 && s.prem == 0#24 && s.fcnt == 1#32 && s.termCause == .none

/-! ### WellFormed: an ill-formed term for each check is refused -/

theorem test_wf_refuses_unknown0A : (Instr.unknown0A 0x0C#8 0 0 0 0).wf = false := by decide
theorem test_wf_refuses_unknown0C : (Instr.unknown0C 0x0B#8 0 0 0 0).wf = false := by decide
theorem test_wf_refuses_unknown10 : (Instr.unknown10 0x20#8 0 0 0 0).wf = false := by decide
theorem test_wf_refuses_unknown20 : (Instr.unknown20 0x40#8 0 0 0 0).wf = false := by decide
theorem test_wf_refuses_unknown40 : (Instr.unknown40 0x80#8 0 0 0 0).wf = false := by decide
theorem test_wf_refuses_unknown80 : (Instr.unknown80 0x07#8 0 0 0 0).wf = false := by decide
theorem test_wf_refuses_encode : (Instr.encode 0x06#8 0 0 0 8#32 [1#8, 2#8]).wf = false := by decide

/-- The ends of each UNKNOWN row (R53), and an ENCODE with its payload, are well formed. -/
theorem test_wf_accepts :
    (Instr.unknown0A 0x0A#8 0 0 0 0).wf = true ∧ (Instr.unknown0A 0x0B#8 0 0 0 0).wf = true ∧
    (Instr.unknown0C 0x0C#8 0 0 0 0).wf = true ∧ (Instr.unknown0C 0x0F#8 0 0 0 0).wf = true ∧
    (Instr.unknown10 0x10#8 0 0 0 0).wf = true ∧ (Instr.unknown10 0x1F#8 0 0 0 0).wf = true ∧
    (Instr.unknown20 0x20#8 0 0 0 0).wf = true ∧ (Instr.unknown20 0x3F#8 0 0 0 0).wf = true ∧
    (Instr.unknown40 0x40#8 0 0 0 0).wf = true ∧ (Instr.unknown40 0x7F#8 0 0 0 0).wf = true ∧
    (Instr.unknown80 0x80#8 0 0 0 0).wf = true ∧ (Instr.unknown80 0xFF#8 0 0 0 0).wf = true ∧
    (Instr.encode 0x01#8 0x05#8 0 1 3#32 [0x82#8, 0x84#8, 0x86#8]).wf = true := by decide

/-! ### Decode: a word written out from the spec for every constructor -/

-- DV4
theorem test_decode_data : decodesTo (.frame 0x000000000100000000#72) (.data 0 0x01#8 0 0) = true := by decide
-- E2, L4
theorem test_decode_headers : decodesTo (.frame 0x000003010500000001#72) (.headers 3 0x05#8 0 1) = true := by decide
-- L5
theorem test_decode_priority : decodesTo (.frame 0x000005020000000003#72) (.priority 5 0 0 3) = true := by decide
-- DV8
theorem test_decode_rstStream : decodesTo (.frame 0x010000030000000100#72) (.rstStream 65536 0 0 256) = true := by decide
-- E1
theorem test_decode_settings : decodesTo (.frame 0x000000040100000000#72) (.settings 0 0x01#8 0 0) = true := by decide
-- L8
theorem test_decode_pushPromise : decodesTo (.frame 0x000005050400000001#72) (.pushPromise 5 0x04#8 0 1) = true := by decide
-- E5: R alone sets byte 5 to 0x80
theorem test_decode_ping : decodesTo (.frame 0x000008060080000000#72) (.ping 8 0 1 0) = true := by decide
-- DV3
theorem test_decode_goaway : decodesTo (.frame 0x000008070000000000#72) (.goaway 8 0 0 0) = true := by decide
-- E7: the largest identifier, R clear
theorem test_decode_windowUpdate :
    decodesTo (.frame 0x00000408007FFFFFFF#72) (.windowUpdate 4 0 0 0x7FFFFFFF#31) = true := by decide
-- E6: a distinct value in every byte
theorem test_decode_continuation :
    decodesTo (.frame 0x010203090412345678#72) (.continuation 0x010203#24 0x04#8 0 0x12345678#31) = true := by decide
-- DV6
theorem test_decode_unknown0A :
    decodesTo (.frame 0x1234560A2580000001#72) (.unknown0A 0x0A#8 0x123456#24 0x25#8 1 1) = true := by decide
-- R53: 0x0F is the last code of its row
theorem test_decode_unknown0C : decodesTo (.frame 0x0000010F0000000002#72) (.unknown0C 0x0F#8 1 0 0 2) = true := by decide
-- R53
theorem test_decode_unknown10 : decodesTo (.frame 0x000001100000000002#72) (.unknown10 0x10#8 1 0 0 2) = true := by decide
-- DV9: the preface misread as a header
theorem test_decode_unknown20 :
    decodesTo (.frame 0x505249202A20485454#72) (.unknown20 0x20#8 0x505249#24 0x2A#8 0 0x20485454#31) = true := by decide
-- R53
theorem test_decode_unknown40 : decodesTo (.frame 0x0000017F0000000002#72) (.unknown40 0x7F#8 1 0 0 2) = true := by decide
-- DV2
theorem test_decode_unknown80 :
    decodesTo (.frame 0xFFFFFFFFFFFFFFFFFF#72) (.unknown80 0xFF#8 0xFFFFFF#24 0xFF#8 1 0x7FFFFFFF#31) = true := by decide
-- R60, the operands of E6: Q[80:73] = 00001001, Q[72:65] = 00000100, Q[64] = 0
theorem test_decode_encHdr : decodesTo (.host (.encHdr 0x12081234567800010203#81))
    (.encHdr 0x09#8 0x04#8 0 0x12345678#32 0x00010203#32) = true := by decide
-- R60, the operands of E5: Q[80:73] = 00000110, Q[72:65] = 0, Q[64] = 1
theorem test_decode_encode : decodesTo (.host (.encode 0x0C010000000000000002#81 [7#8, 9#8]))
    (.encode 0x06#8 0 1 0 2#32 [7#8, 9#8]) = true := by decide
-- R61
theorem test_decode_decode : decodesTo (.host (.decode 0x010203090412345678#72)) (.decode 0x010203090412345678#72) = true := by
  decide
theorem test_decode_typeClassify : decodesTo (.host (.typeClassify 0x0A#8)) (.typeClassify 0x0A#8) = true := by decide
theorem test_decode_flagsTrunc : decodesTo (.host (.flagsTrunc 0x25#8)) (.flagsTrunc 0x25#8) = true := by decide
theorem test_decode_flagsUnion : decodesTo (.host (.flagsUnion 0x8001#16)) (.flagsUnion 0x80#8 0x01#8) = true := by decide
theorem test_decode_flagsContains :
    decodesTo (.host (.flagsContains 0xFE01#16)) (.flagsContains 0xFE#8 0x01#8) = true := by decide
theorem test_decode_goawayParse :
    decodesTo (.host (.goawayParse 0x800000030000000E#64)) (.goawayParse 0x800000030000000E#64) = true := by decide
theorem test_decode_errcodeDecode : decodesTo (.host (.errcodeDecode 0x100#32)) (.errcodeDecode 0x100#32) = true := by decide
-- R61: a command is given by its wire, asserted
theorem test_decode_reset : decodesTo (.host (.rst 1)) .reset = true ∧ decodesTo (.host (.rst 0)) .reset = false := by decide
theorem test_decode_start : decodesTo (.host (.start 1)) .start = true ∧ decodesTo (.host (.start 0)) .start = false := by
  decide

/-- "Fewer than nine bytes are not a header" (R80), refused by name; nine bytes and the rest are. -/
theorem test_decode_short_header :
    (match decodeFrameBytes [0, 0, 3, 1, 5, 0, 0, 0] with | .error e => e == .shortHeader | .ok _ => false) = true ∧
    (match decodeFrameBytes [0, 0, 3, 1, 5, 0, 0, 0, 1, 0x82#8] with
      | .ok (i, rest) => i == .headers 3 0x05#8 0 1 && rest == [0x82#8] | .error _ => false) = true := by decide

/-! ### ENC (R71 to R74) -/

/-- E4: "encoding a payload of exactly 2^24 − 1 bytes succeeds" (S3). -/
theorem test_encHdr_largest : answers (.encHdr 0x00#8 0xFF#8 1 0x7FFFFFFF#32 0xFFFFFF#32)
    (.encHdr (.ok #v[0xFF#8, 0xFF#8, 0xFF#8, 0x00#8, 0xFF#8, 0xFF#8, 0xFF#8, 0xFF#8, 0xFF#8])) = true := by decide

/-- E8, E10, E11, E12, E13: the set of violated preconditions. -/
theorem test_encHdr_refusals :
    answers (.encHdr 0x00#8 0 0 0 0x1000000#32) (.encHdr (.err 0b010#3)) = true ∧
    answers (.encHdr 0x00#8 0 1 0x80000000#32 0) (.encHdr (.err 0b001#3)) = true ∧
    answers (.encHdr 0x0A#8 0 0 0 0) (.encHdr (.err 0b100#3)) = true ∧
    answers (.encHdr 0xFF#8 0 0 0xFFFFFFFF#32 0xFFFFFFFF#32) (.encHdr (.err 0b111#3)) = true ∧
    answers (.encHdr 0x00#8 0 0 0x80000000#32 0x1000000#32) (.encHdr (.err 0b011#3)) = true := by decide

/-- E2 as ENCODE, after a preface already in TX (P4). -/
theorem test_encode_headers :
    onNext (exec (.encode 0x01#8 0x05#8 0 1#32 3#32 [0x82#8, 0x84#8, 0x86#8]) (State.reset.txWrite Config.preface)) (fun s =>
      s.txPos == 36 && s.encStatus == .ok && s.encErr == 0#3 && s.st == .idle &&
      s.txlog.drop 24 == [0, 0, 3, 1, 5, 0, 0, 0, 1, 0x82#8, 0x84#8, 0x86#8]) = true := by decide

/-- E2 and E8 as ENCODE drive the combinational outputs too (R71, R123), E2 even in the loop, where nothing else happens. -/
theorem test_encode_shows_ports :
    onNext (exec (.encode 0x01#8 0x05#8 0 1#32 3#32 [0x82#8, 0x84#8, 0x86#8]) State.reset) (fun s =>
      s.ports.enc == some ⟨true, 0#3, some 0x000003010500000001#72⟩) = true ∧
    onNext (exec (.encode 0x00#8 0 0 0 0x1000000#32 []) State.reset) (fun s =>
      s.ports.enc == some ⟨false, 0b010#3, none⟩ && s.ports.encErr == 0b010#3 && s.ports.encStatus == 2#2) = true ∧
    onNext (exec (.encode 0x01#8 0x05#8 0 1#32 3#32 [0x82#8, 0x84#8, 0x86#8]) loop) (fun s =>
      s.ports.enc == some ⟨true, 0#3, some 0x000003010500000001#72⟩ && { s with out := loop.out } == loop) = true := by decide

/-- E2 with a failing sink, at both ends of the draw (R74): nothing, or all but the last byte. -/
theorem test_encode_sink_failure :
    onNext (exec (.encode 0x01#8 0x05#8 0 1#32 3#32 [0x82#8, 0x84#8, 0x86#8]) (sinkFails State.reset 0)) (fun s =>
      s.txPos == 0 && s.txlog == [] && s.encStatus == .ioFailure) = true ∧
    onNext (exec (.encode 0x01#8 0x05#8 0 1#32 3#32 [0x82#8, 0x84#8, 0x86#8]) (sinkFails State.reset 11)) (fun s =>
      s.txPos == 11 && s.txlog == [0, 0, 3, 1, 5, 0, 0, 0, 1, 0x82#8, 0x84#8] && s.encStatus == .ioFailure) = true := by decide

/-! ### DEC (R81 to R87) -/

/-- DV6, DV7. -/
theorem test_exec_decode :
    answers (.decode 0x1234560A2580000001#72) (.decoded ⟨⟨0x123456#24, 0x0A#8, 0x25#8, 1, 1⟩, ⟨false, 0xF#4⟩, 0x05#8, true, true⟩)
      = true ∧
    answers (.decode 0x00010009047FFFFFFF#72)
      (.decoded ⟨⟨256#24, 0x09#8, 0x04#8, 0, 0x7FFFFFFF#31⟩, ⟨true, 9#4⟩, 0x04#8, false, true⟩) = true := by decide

/-- T, at the boundary of the known codes. -/
theorem test_exec_typeClassify :
    answers (.typeClassify 0x09#8) (.typeClass ⟨true, 9#4⟩) = true ∧
    answers (.typeClassify 0x0A#8) (.typeClass ⟨false, 0xF#4⟩) = true ∧
    answers (.typeClassify 0x80#8) (.typeClass ⟨false, 0xF#4⟩) = true := by decide

/-- F. -/
theorem test_exec_flags :
    answers (.flagsTrunc 0xFA#8) (.flags 0x00#8) = true ∧ answers (.flagsTrunc 0x25#8) (.flags 0x05#8) = true ∧
    answers (.flagsUnion 0x80#8 0x01#8) (.flags 0x81#8) = true ∧ answers (.flagsUnion 0x01#8 0x04#8) (.flags 0x05#8) = true ∧
    answers (.flagsContains 0xFE#8 0x01#8) (.contains false) = true ∧
    answers (.flagsContains 0xFF#8 0x01#8) (.contains true) = true ∧
    answers (.flagsContains 0xFB#8 0x04#8) (.contains false) = true ∧
    answers (.flagsContains 0x05#8 0x04#8) (.contains true) = true := by decide

/-- G: the second and the third row. -/
theorem test_exec_goawayParse :
    answers (.goawayParse 0x800000030000000E#64) (.goaway ⟨1, 3, 0x0000000E#32, false⟩) = true ∧
    answers (.goawayParse 0x7FFFFFFF0000000D#64) (.goaway ⟨0, 0x7FFFFFFF#31, 0x0000000D#32, true⟩) = true := by decide

/-- X: the boundary, and a value whose low byte alone would be known. -/
theorem test_exec_errcodeDecode :
    answers (.errcodeDecode 0xd#32) (.errcode true) = true ∧ answers (.errcodeDecode 0xe#32) (.errcode false) = true ∧
    answers (.errcodeDecode 0x0100000d#32) (.errcode false) = true := by decide

/-! ### The frames: the step of the last byte -/

/-- L1: DATA with END_STREAM ends the run at the ninth header byte. -/
theorem test_step_data_end_stream : afterFrameWord 0x000000000100000000 (fun s =>
    s.st == .done && s.termCause == .dataEndStream && s.fcnt == 1#32 && s.out.hdrStrobe &&
    s.evlog == [.header ⟨0, 0x00#8, 0x01#8, 0, 0⟩, .done .dataEndStream]) = true := by decide

/-- L2, and L16's first frame: only bit 0 of the flags matters. -/
theorem test_step_data_goes_on :
    afterFrameWord 0x000000000000000000 goesOn = true ∧ afterFrameWord 0x00000100FE00000000 goesOn = true := by decide

-- L4: END_STREAM on HEADERS does not terminate
theorem test_step_headers : afterFrameWord 0x000003010500000001 goesOn = true := by decide
-- L5
theorem test_step_priority : afterFrameWord 0x000005020000000003 goesOn = true := by decide
-- L6
theorem test_step_rstStream : afterFrameWord 0x000004030000000001 goesOn = true := by decide
-- L7, and E1's header inbound
theorem test_step_settings :
    afterFrameWord 0x000006040000000000 goesOn = true ∧ afterFrameWord 0x000000040100000000 goesOn = true := by decide
-- L8
theorem test_step_pushPromise : afterFrameWord 0x000005050400000001 goesOn = true := by decide
-- L3
theorem test_step_ping : afterFrameWord 0x000008060000000000 goesOn = true := by decide
-- L9
theorem test_step_windowUpdate : afterFrameWord 0x000004080000000000 goesOn = true := by decide
-- L10
theorem test_step_continuation : afterFrameWord 0x000001090400000001 goesOn = true := by decide
-- L12
theorem test_step_unknown0A : afterFrameWord 0x0000000A0000000000 goesOn = true := by decide
-- T, R105
theorem test_step_unknown0C : afterFrameWord 0x0000000F0000000000 goesOn = true := by decide
theorem test_step_unknown10 : afterFrameWord 0x000000100000000000 goesOn = true := by decide
theorem test_step_unknown20 : afterFrameWord 0x000000200000000000 goesOn = true := by decide
theorem test_step_unknown40 : afterFrameWord 0x0000007F0000000000 goesOn = true := by decide
-- L11
theorem test_step_unknown80 : afterFrameWord 0x000001FFFFFFFFFFFF (fun s =>
    goesOn s && s.h == ⟨1, 0xFF#8, 0xFF#8, 1, 0x7FFFFFFF#31⟩) = true := by decide

/-- P1 (S6), its last byte: the eighth captured byte, the parse, the two events. -/
theorem test_step_goaway :
    onNext (step (given (inPayload ⟨8, 0x07#8, 0, 0, 0⟩ 1 7 #v[0, 0, 0, 1, 0, 0, 0, 0xFF#8]) [.rxByte 0])) (fun s =>
      s.st == .done && s.termCause == .goaway && s.gaPorts == some ⟨0, 1, 0, true⟩ && s.fcnt == 1#32 && s.gcnt == 8 &&
      s.evlog == [.goaway ⟨0, 1, 0, true⟩, .done .goaway] && s.out.gaStrobe) = true := by decide

/-- P3, its last byte: an unknown error code is reported, and the trailing byte is discarded. -/
theorem test_step_goaway_unknown_code :
    onNext (step (given (inPayload ⟨11, 0x07#8, 0, 0, 0⟩ 1 8 #v[0x80#8, 0, 0, 3, 0, 0, 0, 0x0E#8]) [.rxByte 0x65#8])) (fun s =>
      s.st == .done && s.gaPorts == some ⟨1, 3, 0xE#32, false⟩ && s.faultCause == .none) = true := by decide

/-- L14, L15: shorter than eight bytes it is the fault GOAWAY_SHORT, and `ga_valid` stays 0. -/
theorem test_step_goaway_short :
    afterFrameWord 0x000007070000000000 (fun s =>
      s.st == .fault && s.faultCause == .goawayShort && s.fcnt == 1#32 && s.gaPorts == none) = true ∧
    afterFrameWord 0x000000070000000000 (fun s =>
      s.st == .fault && s.faultCause == .goawayShort && s.evlog == [.header ⟨0, 0x07#8, 0, 0, 0⟩, .fault .goawayShort]) = true := by
  decide

/-! ### The byte steps, RX errors, control -/

/-- P1, byte 8: the ninth header byte, with payload to come. -/
theorem test_step_ninth_header_byte :
    onNext (step (given { loop with hcnt := 8, pos := 8, hb := #v[0, 0, 8, 7, 0, 0, 0, 0, 0xFF#8] } [.rxByte 0])) (fun s =>
      s.st == .pay && s.hcnt == 0 && s.prem == 8#24 && s.gcnt == 0 && s.pos == 9 && s.hv &&
      s.h == ⟨8, 0x07#8, 0, 0, 0⟩ && s.evlog == [.header ⟨8, 0x07#8, 0, 0, 0⟩]) = true := by decide

/-- P1, byte 12: the fourth payload byte is kept in `GA[3]`. -/
theorem test_step_payload_byte_kept :
    onNext (step (given (inPayload ⟨8, 0x07#8, 0, 0, 0⟩ 5 3 (Vector.replicate 8 0)) [.rxByte 1])) (fun s =>
      s.st == .pay && s.prem == 4#24 && s.gcnt == 4 && s.ga == #v[0, 0, 0, 1, 0, 0, 0, 0]) = true := by decide

/-- TF, rows 5 and 12: inside a header, inside a payload. -/
theorem test_step_rx_error :
    onNext (step (given { loop with hcnt := 5, pos := 5 } [.rxErr])) (fun s =>
      s.st == .fault && s.faultCause == .transport && s.hcnt == 0 && s.pos == 5 && s.fcnt == 0#32) = true ∧
    onNext (step (given { inPayload ⟨8, 0x06#8, 0, 0, 0⟩ 5 0 (Vector.replicate 8 0) with pos := 12 } [.rxErr])) (fun s =>
      s.st == .fault && s.faultCause == .transport && s.prem == 5#24 && s.pos == 12 && s.hv) = true := by decide

/-- TF, row 36, and CT5: in DONE an error, and in IDLE a byte, is not taken. -/
theorem test_step_rx_not_ready :
    onNext (step (given ended [.rxErr])) (fun s => s == given ended [.rxErr]) = true ∧
    onNext (step (given State.reset [.rxByte 5])) (fun s => s == given State.reset [.rxByte 5]) = true := by decide

/-- CT1. -/
theorem test_exec_reset :
    onNext (exec .reset { ended with termCause := .goaway, gaValid := true, fcnt := 3#32, txPos := 1, txlog := [7#8] }) (fun s =>
      s == State.reset) = true := by decide

/-- CT2, CT3, CT4. -/
theorem test_exec_start :
    onNext (exec .start State.reset) (fun s => s == loop && s.ports.rxReady && !s.ports.encReady) = true ∧
    onNext (exec .start { loop with hcnt := 4 }) (fun s => s == { loop with hcnt := 4 }) = true ∧
    onNext (exec .start ended) (fun s => s == ended) = true := by decide

/-- CT6, CT7: E15 after the run, accepted; E1 inside a payload, held in the list while the byte behind it is taken. -/
theorem test_step_encode_gating :
    onNext (step (given ended [.request (.encode 0x0E000000000000000008#81 (List.replicate 8 0)) none])) (fun s =>
      s.txPos == 17 && s.encStatus == .ok && s.st == .done && s.out.encDone) = true ∧
    onNext (step (given (inPayload ⟨8, 0x06#8, 0, 0, 0⟩ 5 0 (Vector.replicate 8 0))
      [.request (.encode 0x08020000000000000000#81 []) none, .rxByte 3])) (fun s =>
      s.txPos == 0 && s.prem == 4#24 && s.env.inputs == [.request (.encode 0x08020000000000000000#81 []) none]) = true := by decide

/-- R150 (d): RESET with a START, and with a byte in the loop: it wins, the START is gone, the byte is not consumed. -/
theorem test_step_reset_wins :
    onNext (step (given State.reset [.resetWith (.request (.start 1) none)])) (fun s => s == State.reset) = true ∧
    onNext (step (given { loop with hcnt := 4, pos := 4 } [.resetWith (.rxByte 7)])) (fun s =>
      s == given State.reset [.rxByte 7]) = true := by decide

/-- R111, R26: a byte that is supplied is taken like a listed one; in IDLE it is offered and not consumed (CT5). -/
theorem test_step_supplied_byte :
    onNext (step (supplied loop (.cycle [] [.rxByte 7, .rxByte 8]))) (fun s =>
      s.pos == 1 && s.hcnt == 1 && s.hb[0] == 7#8 && s.env.supply == .cycle [.rxByte 8] [.rxByte 7, .rxByte 8]) = true ∧
    onNext (step (supplied State.reset (.cycle [.rxByte 7] []))) (fun s =>
      s.pos == 0 && s.st == .idle && s.env.inputs == [.rxByte 7]) = true := by decide

/-- The host's preface write (R124): 24 bytes. -/
theorem test_step_preface :
    onNext (step (given State.reset [.preface none])) (fun s => s.txPos == 24 && s.txlog == Config.preface && s.st == .idle) = true
    := by decide

/-! ### Witnesses: the hypotheses of each obligation can be met together -/

/-- EveryHeaderWordDecodesAndReencodes, DecodeOfEncodeIsIdentity and the frames' frame condition: a frame of each end of the
vocabulary. -/
theorem witness_wf_frames :
    (Instr.data 0xFFFFFF#24 0xFF#8 1 0x7FFFFFFF#31).wf = true ∧
    (Instr.unknown80 0xFF#8 0xFFFFFF#24 0xFF#8 1 0x7FFFFFFF#31).wf = true ∧
    (Instr.data 0xFFFFFF#24 0xFF#8 1 0x7FFFFFFF#31).header = some ⟨0xFFFFFF#24, 0x00#8, 0xFF#8, 1, 0x7FFFFFFF#31⟩ ∧
    (Instr.unknown80 0xFF#8 1 2 0 3).header = some ⟨1, 0xFF#8, 2, 0, 3⟩ := by decide

/-- DecodeHeaderIsBijection, EncodeDecodeRoundTripLaw, TypeByteSelectsTheFrame: type codes at the boundary. -/
theorem witness_type_boundary :
    (0x09#8 : Byte).toNat ≤ 9 ∧ 10 ≤ (0x0A#8 : Byte).toNat ∧ 10 ≤ (0xFF#8 : Byte).toNat ∧
    (#v[1, 2, 3, 9, 4, 5, 6, 7, 8] : Vector Byte 9)[3].toNat ≤ 9 ∧
    10 ≤ (#v[1, 2, 3, 0x0A#8, 4, 5, 6, 7, 8] : Vector Byte 9)[3].toNat := by decide

/-- EncHdrGivesTheHeaderBytes, EncodeAppendsHeaderAndPayload: the largest legal operands. -/
theorem witness_preconditions :
    (0x7FFFFFFF#32 : Word32).getLsbD 31 = false ∧ (0xFFFFFF#32 : Word32).toNat < 2 ^ 24 ∧ (0x09#8 : Byte).toNat < 10 := by decide

/-- EncHdrReportsEveryViolation, EncodeRefusalWritesNothing: each violation, at its boundary. -/
theorem witness_violations :
    (0x80000000#32 : Word32).getLsbD 31 = true ∧ 2 ^ 24 ≤ (0x1000000#32 : Word32).toNat ∧ 10 ≤ (0x0A#8 : Byte).toNat ∧
    State.reset.encReady = true := by decide

/-- EncodeDecodeRoundTripLaw, ReservedBitIsIsolated: E6 and E4 are encoded. -/
theorem witness_encoded :
    encodeHeader 0x09#8 0x04#8 0 0x12345678#32 0x010203#32 =
      .ok #v[0x01#8, 0x02#8, 0x03#8, 0x09#8, 0x04#8, 0x12#8, 0x34#8, 0x56#8, 0x78#8] ∧
    encodeHeader 0x00#8 0xFF#8 1 0x7FFFFFFF#32 0xFFFFFF#32 =
      .ok #v[0xFF#8, 0xFF#8, 0xFF#8, 0x00#8, 0xFF#8, 0xFF#8, 0xFF#8, 0xFF#8, 0xFF#8] := by decide

/-- EncodeAppendsHeaderAndPayload, in each state that accepts ENCODE. -/
theorem witness_encode_appends :
    State.reset.encReady = true ∧ ended.encReady = true ∧ failedRun.encReady = true ∧
    (0x7FFFFFFF#32 : Word32).getLsbD 31 = false ∧ (3#32 : Word32).toNat < 2 ^ 24 ∧ (0x09#8 : Byte).toNat < 10 ∧
    [0x82#8, 0x84#8, 0x86#8].length = (3#32 : Word32).toNat ∧ State.reset.env.plPort = [] ∧ State.reset.env.txErr = none := by
  decide

/-- EncodeSinkFailureLeavesPrefix: both ends of the draw, and a byte left on the port from before. -/
theorem witness_sink_failure :
    (sinkFails State.reset 0).encReady = true ∧ (sinkFails State.reset 11).encReady = true ∧
    encodeHeader 0x01#8 0x05#8 0 1#32 3#32 = .ok #v[0, 0, 3, 1, 5, 0, 0, 0, 1] ∧
    (3#32 : Word32).toNat ≤ ((sinkFails State.reset 11).env.plPort ++ [0x82#8, 0x84#8, 0x86#8]).length ∧
    (3#32 : Word32).toNat ≤ ([0x82#8] ++ [0x84#8, 0x86#8, 0x87#8] : List Byte).length ∧
    (sinkFails State.reset 0).env.txErr = some 0 ∧ (sinkFails State.reset 11).env.txErr = some 11 ∧
    0 < 9 + (3#32 : Word32).toNat ∧ 11 < 9 + (3#32 : Word32).toNat := by decide

/-- EncodeWaitsWhileTheLoopRuns: both states that hold an ENCODE. -/
theorem witness_encode_waits :
    loop.encReady = false ∧ (inPayload ⟨8, 0x06#8, 0, 0, 0⟩ 5 0 (Vector.replicate 8 0)).encReady = false ∧
    (given loop [.request (.encode 0 []) none, .rxByte 0]).encReady = false ∧
    ∃ u, step (given loop [.request (.encode 0 []) none, .rxByte 0]) = .next u :=
  ⟨by decide, by decide, by decide, ⟨_, rfl⟩⟩

/-- EncodeForwardsExactlyPlenBytes: one byte short, exact, and one byte over. -/
theorem witness_payload_port :
    State.reset.encReady = true ∧ encodeHeader 0x06#8 0 0 0 3#32 = .ok #v[0, 0, 3, 6, 0, 0, 0, 0, 0] ∧
    (State.reset.env.plPort ++ [1#8, 2#8]).length < (3#32 : Word32).toNat ∧
    (3#32 : Word32).toNat ≤ (State.reset.env.plPort ++ [1#8, 2#8, 3#8]).length ∧
    (3#32 : Word32).toNat ≤ (State.reset.env.plPort ++ [1#8, 2#8, 3#8, 4#8]).length ∧
    State.reset.env.txErr = none := by decide

/-- EncodeFrameCondition: ENCODE answers a next state. -/
theorem witness_encode_next : ∃ u, exec (.encode 0x04#8 0x01#8 0 0 0 []) State.reset = .next u := ⟨_, rfl⟩

/-- OnlyStarvedEncodeStops: an ENCODE that is starved. -/
theorem witness_starved : exec (.encode 0x06#8 0 0 0 3#32 [1#8, 2#8]) State.reset = .fault .payloadStarved := rfl

/-- The frames' statements: the loop runs in HDR and in PAY, and in no other state. -/
theorem witness_rx_ready :
    loop.rxReady = true ∧ (inPayload ⟨8, 0x07#8, 0, 0, 0⟩ 1 7 (Vector.replicate 8 0)).rxReady = true ∧
    State.reset.rxReady = false ∧ ended.rxReady = false ∧ failedRun.rxReady = false := by decide

/-- DataFrameEndsTheRunOnEndStream: both clauses. -/
theorem witness_data_flags :
    loop.rxReady = true ∧ (0x01#8 : Byte).getLsbD 0 = true ∧ (0xFE#8 : Byte).getLsbD 0 = false := by decide

/-- GoawayFrameIsParsedAndEndsTheRun, ShortGoawayTakesTheFault: the boundary of `length`. -/
theorem witness_goaway_length :
    (inPayload ⟨8, 0x07#8, 0, 0, 0⟩ 1 7 (Vector.replicate 8 0)).rxReady = true ∧
    8 ≤ (8#24 : Len).toNat ∧ (7#24 : Len).toNat < 8 ∧ (0#24 : Len).toNat < 8 := by decide

/-- FrameInstructionsFrameCondition: its last two clauses. -/
theorem witness_frame_condition :
    (∃ u, exec (.ping 8 0 0 0) loop = .next u) ∧ (Instr.ping 8 0 0 0).header = some ⟨8, 0x06#8, 0, 0, 0⟩ ∧
    (Instr.ping 8 0 0 0).wf = true ∧ (0x06#8 : Byte) ≠ 0x07#8 ∧ (0x06#8 : Byte) ≠ 0x00#8 :=
  ⟨⟨_, rfl⟩, by decide, by decide, by decide, by decide⟩

/-- DispatchIgnoresTheOtherFields: two headers that differ in every field it ignores. -/
theorem witness_dispatch :
    let h : FrameHeader := ⟨8, 0x07#8, 0x01#8, 0, 0⟩
    let k : FrameHeader := ⟨8, 0x07#8, 0xFE#8, 1, 5⟩
    h.type = k.type ∧ (h.type = 0x00#8 → h.flags.getLsbD 0 = k.flags.getLsbD 0) ∧ (h.type = 0x07#8 → h.length = k.length) := by
  decide

/-- StartBeginsTheLoopOnlyInIdle: both clauses. -/
theorem witness_start : State.reset.st = .idle ∧ loop.st ≠ .idle := by decide

/-- TerminalStatesAbsorbInstructions and TerminalStatesAbsorbSteps, in DONE and in FAULT. -/
theorem witness_terminal :
    ended.runOver = true ∧ failedRun.runOver = true ∧ Instr.start ≠ .reset ∧ (∃ u, exec .start ended = .next u) ∧
    (∃ u, exec .start failedRun = .next u) ∧ (given failedRun [.request (.rst 1) none]).runOver = true ∧
    (∃ u, step (given failedRun [.request (.rst 1) none]) = .next u) :=
  ⟨by decide, by decide, by decide, ⟨_, rfl⟩, ⟨_, rfl⟩, by decide, ⟨_, rfl⟩⟩

/-- StepRunsTheDecodedInstruction: a request, a header's last byte, a payload's last byte. -/
theorem witness_step_runs :
    (given State.reset [.request (.start 1) none]).env.inputs = [.request (.start 1) none] ∧
    (given State.reset [.request (.start 1) none]).enabled (.request (.start 1) none) = true ∧
    (decodesTo (.host (.start 1)) .start = true) ∧
    (given { loop with hcnt := 8 } [.rxByte 0]).env.inputs = [.rxByte 0] ∧
    (given { loop with hcnt := 8 } [.rxByte 0]).st = .hdr ∧ (given { loop with hcnt := 8 } [.rxByte 0]).hcnt = 8 ∧
    (decodeHeader ({ loop with hcnt := 8 }.hb.set 8 0#8)).length = 0#24 ∧
    (given (inPayload ⟨8, 0x07#8, 0, 0, 0⟩ 1 7 (Vector.replicate 8 0)) [.rxByte 0]).env.inputs = [.rxByte 0] ∧
    (given (inPayload ⟨8, 0x07#8, 0, 0, 0⟩ 1 7 (Vector.replicate 8 0)) [.rxByte 0]).st = .pay ∧
    (given (inPayload ⟨8, 0x07#8, 0, 0, 0⟩ 1 7 (Vector.replicate 8 0)) [.rxByte 0]).prem = 1#24 := by decide

/-- HeaderByteStep: the eighth byte, the ninth without payload, the ninth with payload. -/
theorem witness_header_byte :
    let s := given { loop with hcnt := 7 } [.rxByte 0]
    let u := given { loop with hcnt := 8 } [.rxByte 0]
    let v := given { loop with hcnt := 8, hb := #v[0, 0, 1, 0, 0, 0, 0, 0, 0] } [.rxByte 0]
    (s.st = .hdr ∧ s.env.inputs = [.rxByte 0] ∧ s.hcnt < 8) ∧
    (u.st = .hdr ∧ u.env.inputs = [.rxByte 0] ∧ u.hcnt = 8 ∧ (decodeHeader (u.hb.set 8 0#8)).length = 0#24) ∧
    (v.st = .hdr ∧ v.env.inputs = [.rxByte 0] ∧ v.hcnt = 8 ∧ (decodeHeader (v.hb.set 8 0#8)).length ≠ 0#24) := by decide

/-- PayloadByteStep: the last byte and the last but one, with the capture buffer one byte from full and full. -/
theorem witness_payload_byte :
    let s := given (inPayload ⟨9, 0x07#8, 0, 0, 0⟩ 1 8 (Vector.replicate 8 0)) [.rxByte 0]
    let u := given (inPayload ⟨9, 0x07#8, 0, 0, 0⟩ 2 7 (Vector.replicate 8 0)) [.rxByte 0]
    (s.st = .pay ∧ s.env.inputs = [.rxByte 0] ∧ s.prem = 1#24 ∧ ¬ s.gcnt.val < 8) ∧
    (u.st = .pay ∧ u.env.inputs = [.rxByte 0] ∧ u.prem ≠ 1#24 ∧ u.h.type = 0x07#8 ∧ u.gcnt.val < 8) := by decide

/-- RxErrorTakesTheTransportFault: its four clauses. -/
theorem witness_rx_error :
    ((given loop [.rxErr]).rxReady = true ∧ (given loop [.rxErr]).env.inputs = [.rxErr]) ∧
    ((given loop [.rxErrByte 3]).rxReady = true ∧ (given loop [.rxErrByte 3]).env.inputs = [.rxErrByte 3]) ∧
    ((given State.reset [.rxErr, .request (.start 1) none]).rxReady = false ∧ onRx .rxErr = true ∧
      ∃ u, step (given State.reset [.rxErr, .request (.start 1) none]) = .next u) ∧
    ((given ended [.rxErr, .rxByte 1]).rxReady = false ∧ (∀ i ∈ (given ended [.rxErr, .rxByte 1]).env.inputs, onRx i = true) ∧
      (given ended [.rxErr, .rxByte 1]).env.supply.draw = none) :=
  ⟨by decide, by decide, ⟨by decide, rfl, ⟨_, rfl⟩⟩, by decide⟩

/-- BlockWaitsWithoutBound: an empty list, and one that holds only what is not enabled. -/
theorem witness_wait :
    ((∀ i ∈ loop.env.inputs, loop.enabled i = false) ∧ loop.env.supply.draw = none) ∧
    (∀ i ∈ (given ended [.rxByte 1, .rxErr]).env.inputs, (given ended [.rxByte 1, .rxErr]).enabled i = false) ∧
    (given ended [.rxByte 1, .rxErr]).env.supply.draw = none := by decide

/-- FirstEnabledInputIsTaken: a byte that is not taken stands before the START that is. -/
theorem witness_first_enabled :
    (given State.reset [.rxByte 1, .request (.start 1) none, .rxErr]).env.inputs =
      [.rxByte 1] ++ .request (.start 1) none :: [.rxErr] ∧
    (∀ j ∈ [Input.rxByte 1], State.reset.enabled j = false) ∧ State.reset.enabled (.request (.start 1) none) = true := by decide

/-- PlacedWordRunsNext: one word for each width of the opcode table, and a width that is no row's. -/
theorem witness_placed_word :
    decodeTableWord 72 0x000003010500000001 = some (.headers 3 0x05#8 0 1) ∧
    decodeTableWord 88 0x08020000000000000000 = some (.encode 0x04#8 0x01#8 0 0 0 []) ∧
    decodeTableWord 81 0x0C010000000000000002 = some (.encode 0x06#8 0 1 0 2#32 [0, 0]) ∧
    decodeTableWord 64 0x800000030000000E = some (.goawayParse 0x800000030000000E#64) ∧
    decodeTableWord 32 0x0100000D = some (.errcodeDecode 0x0100000D#32) ∧
    decodeTableWord 16 0x0104 = some (.flagsUnion 0x01#8 0x04#8) ∧
    decodeTableWord 8 0x0A = some (.typeClassify 0x0A#8) ∧
    decodeTableWord 1 1 = some .reset ∧
    decodeTableWord 24 0 = none := by decide

/-- EveryStepKeepsTheInvariants: a state inside a PING payload (P2, after its twelfth byte), and its step. -/
theorem witness_inv :
    let s : State :=
      { given (inPayload ⟨8, 0x06#8, 0, 0, 0⟩ 5 0 (Vector.replicate 8 0)) [.rxByte 4] with
        pos := 12, evlog := [.header ⟨8, 0x06#8, 0, 0, 0⟩] }
    Inv s ∧ ∃ u, step s = .next u :=
  ⟨⟨by decide, by decide, by decide, by decide, by decide, by decide, by decide, by decide, by decide, by decide, by decide,
    by decide, by decide, by decide⟩, ⟨_, rfl⟩⟩

/-- WholeFrameRunsItsInstruction: a GOAWAY of nine payload bytes, and an empty DATA frame. -/
theorem witness_whole_frame :
    (given loop ((([0, 0, 9, 7, 0, 0, 0, 0, 0, 1, 2, 3, 4, 5, 6, 7, 8, 9] : List Byte).map .rxByte) ++ [.rxErr])).env.inputs =
      ((#v[0, 0, 9, 7, 0, 0, 0, 0, 0] : Vector Byte 9).toList ++ [1, 2, 3, 4, 5, 6, 7, 8, 9]).map .rxByte ++ [.rxErr] ∧
    ([1, 2, 3, 4, 5, 6, 7, 8, 9] : List Byte).length = (decodeHeader #v[0, 0, 9, 7, 0, 0, 0, 0, 0]).length.toNat ∧
    ([] : List Byte).length = (decodeHeader (Vector.replicate 9 0)).length.toNat ∧ loop.st = .hdr ∧ loop.hcnt = 0 := by decide

/-- ByteMachineRefinesTheFrameLoop: the loop at a frame boundary, with an error in the stream; and with a listed byte before
two of a peer that never stops. -/
theorem witness_loop_boundary :
    let s := given loop [.rxByte 0, .rxErr]
    let u := supplied (given loop [.rxByte 9]) (.cycle [] [.rxByte 7])
    (s.st = .hdr ∧ s.hcnt = 0 ∧ s.env.inputs ++ s.env.supply.first 5 = ([RxItem.byte 0, .err]).map rxInput) ∧
    (u.st = .hdr ∧ u.hcnt = 0 ∧ u.env.inputs ++ u.env.supply.first 2 = ([RxItem.byte 9, .byte 7, .byte 7]).map rxInput) := by
  decide

/-- The frame-level loop itself, on TF: row 17 (an error at the frame boundary) and the whole PING. -/
theorem test_iterate_tf_17 :
    iterate 3 ((([0, 0, 8, 6, 0, 0, 0, 0, 0, 1, 2, 3, 4, 5, 6, 7, 8] : List Byte).map .byte) ++ [.err]) =
      { ending := .transport, consumed := 17, frames := 1, headers := [⟨8, 0x06#8, 0, 0, 0⟩] } := by decide

/-- PositionAdvancesByOneByte, HistoriesOnlyGrow, EveryStepKeepsTheTxForm: a step, and a TX space in form. -/
theorem witness_step :
    Memory.wf (given loop [.rxByte 0]) = true ∧ ∃ u, step (given loop [.rxByte 0]) = .next u := ⟨by decide, ⟨_, rfl⟩⟩

/-- LoopNeverWritesToTheSink: an instruction in the loop. -/
theorem witness_loop_instruction :
    loop.rxReady = true ∧ Instr.encode 0x04#8 0x01#8 0 0 0 [] ≠ .reset ∧
    ∃ u, exec (.encode 0x04#8 0x01#8 0 0 0 []) loop = .next u := ⟨by decide, by decide, ⟨_, rfl⟩⟩

/-- DiscardedPayloadDoesNotInfluence: inside a DATA payload, and at the ninth byte of a GOAWAY payload. -/
theorem witness_discarded :
    let s := inPayload ⟨2, 0x00#8, 0, 0, 1⟩ 2 0 (Vector.replicate 8 0)
    let u := inPayload ⟨9, 0x07#8, 0, 0, 0⟩ 1 8 (Vector.replicate 8 0)
    (s.st = .pay ∧ s.h.type ≠ 0x07#8) ∧ (u.st = .pay ∧ u.gcnt = 8) := by decide

/-- StatusOutputs: an encoder result of each kind on the ports. -/
theorem witness_enc_ports :
    (loop.present (.encHdr (.ok (Vector.replicate 9 1)))).out.result = some (.encHdr (.ok (Vector.replicate 9 1))) ∧
    (loop.present (.encHdr (.err 0b101#3))).out.result = some (.encHdr (.err 0b101#3)) := by decide

/-- SupplyIsTakenLikeAListedInput: a supplied byte behind a held ENCODE, in the loop and in IDLE. -/
theorem witness_supply :
    let s := supplied (given loop [.request (.encode 0 []) none]) (.cycle [] [.rxByte 7])
    let u := supplied State.reset (.cycle [] [.rxByte 7])
    ((∀ j ∈ s.env.inputs, s.enabled j = false) ∧ s.env.supply.draw = some (.rxByte 7, .cycle [] [.rxByte 7]) ∧
      s.enabled (.rxByte 7) = true) ∧
    ((∀ j ∈ u.env.inputs, u.enabled j = false) ∧ u.env.supply.draw = some (.rxByte 7, .cycle [] [.rxByte 7]) ∧
      u.enabled (.rxByte 7) = false) := by decide

/-- EndlessPeerKeepsTheRunGoing: DATA without END_STREAM and a payload of one byte, over and over. -/
theorem witness_endless_peer :
    let b : Vector Byte 9 := #v[0, 0, 1, 0, 0xFE#8, 0, 0, 0, 1]
    let s := supplied loop (.cycle [] ((b.toList ++ [5#8]).map .rxByte))
    s.st = .hdr ∧ s.hcnt = 0 ∧ s.env.inputs = [] ∧ s.env.supply = .cycle [] ((b.toList ++ [5#8]).map .rxByte) ∧
    [5#8].length = (decodeHeader b).length.toNat ∧ (decodeHeader b).type ≠ 0x07#8 ∧
    ((decodeHeader b).type = 0x00#8 → (decodeHeader b).flags.getLsbD 0 = false) := by decide

/-- ResetWinsOverAnything: RESET with a byte in the loop. -/
theorem witness_reset_wins :
    (given loop [.resetWith (.rxByte 7), .rxErr]).env.inputs = .resetWith (.rxByte 7) :: [.rxErr] := by decide

/-- OutboundSequenceFillsTheSink: the largest legal identifier. -/
theorem witness_outbound : (0x7FFFFFFF#32 : Word32).getLsbD 31 = false := by decide

end Sys2Proof.Tests
end

section
/-! SUPPORT. What one step can do, said once: to the encoder and the TX space (`EncStep`), to the DSP unit (`DspStep`), or a
RESET. The step lemmas of the invariants, of the histories and of `pos` are read off `step_effect`. -/

namespace Sys2Proof.Machine

/-! ### States that agree on a unit -/

theorem SameDsp.refl (s : State) : SameDsp s s := by constructor <;> rfl

theorem SameGoaway.refl (s : State) : SameGoaway s s := by constructor <;> rfl

theorem SameGoaway.trans {s t u : State} (h : SameGoaway s t) (k : SameGoaway t u) : SameGoaway s u where
  gaValid := k.gaValid.trans h.gaValid
  gaR := k.gaR.trans h.gaR
  gaLastSid := k.gaLastSid.trans h.gaLastSid
  gaErrRaw := k.gaErrRaw.trans h.gaErrRaw
  gaErrKnown := k.gaErrKnown.trans h.gaErrKnown

/-! ### The dispatch of a frame -/

/-- END_STREAM is bit 0 of the flags (R54, R85). -/
theorem flagsContains_endStream (v : Byte) : flagsContains v Config.flagEndStream = v.getLsbD 0 := by
  revert v
  decide

/-- Everything a dispatch can do (R95, R102, R142): each end of a run is reached from the state that awaits the next frame. -/
theorem frameDispatch_cases (h : FrameHeader) (s : State) :
    (h.type = 0x07#8 ∧ 8 ≤ h.length.toNat ∧
      frameDispatch h s = (s.awaitFrame.latchGoaway (goawayParse s.ga)).terminate .goaway) ∨
    (h.type = 0x07#8 ∧ h.length.toNat < 8 ∧ frameDispatch h s = s.awaitFrame.raise .goawayShort) ∨
    (h.type ≠ 0x07#8 ∧ h.type = 0x00#8 ∧ h.flags.getLsbD 0 = true ∧
      frameDispatch h s = s.awaitFrame.terminate .dataEndStream) ∨
    (h.type ≠ 0x07#8 ∧ ¬(h.type = 0x00#8 ∧ h.flags.getLsbD 0 = true) ∧ frameDispatch h s = s.awaitFrame) := by
  unfold frameDispatch
  by_cases h7 : h.type = 0x07#8
  · rw [if_pos h7]
    by_cases hl : h.length.toNat ≥ Config.goawayMin
    · exact .inl ⟨h7, hl, by rw [dispatchGoaway, if_pos hl]; rfl⟩
    · exact .inr (.inl ⟨h7, Nat.lt_of_not_ge hl, by rw [dispatchGoaway, if_neg hl]; rfl⟩)
  · rw [if_neg h7]
    by_cases h0 : h.type = 0x00#8
    · rw [if_pos h0, dispatchData, flagsContains_endStream]
      cases hf : h.flags.getLsbD 0 with
      | true => exact .inr (.inr (.inl ⟨h7, h0, rfl, rfl⟩))
      | false => exact .inr (.inr (.inr ⟨h7, by simp, rfl⟩))
    · exact .inr (.inr (.inr ⟨h7, fun h => h0 h.1, by rw [if_neg h0]⟩))

/-- What `u` has done since `s` when a byte step or a dispatch has run: the encoder, TX and the environment are as they were,
and events are appended. -/
structure Collected (s u : State) : Prop where
  env : u.env = s.env
  enc : SameEnc s u
  evlog : ∃ ev, u.evlog = s.evlog ++ ev

theorem frameDispatch_collected (h : FrameHeader) (s : State) : Collected s (frameDispatch h s) := by
  obtain ⟨-, -, e⟩ | ⟨-, -, e⟩ | ⟨-, -, -, e⟩ | ⟨-, -, e⟩ := frameDispatch_cases h s <;> rw [e]
  · exact ⟨rfl, ⟨rfl, rfl, rfl, rfl⟩, _, List.append_assoc ..⟩
  · exact ⟨rfl, ⟨rfl, rfl, rfl, rfl⟩, _, rfl⟩
  · exact ⟨rfl, ⟨rfl, rfl, rfl, rfl⟩, _, rfl⟩
  · exact ⟨rfl, ⟨rfl, rfl, rfl, rfl⟩, [], (List.append_nil _).symm⟩

@[simp] theorem frameDispatch_pos (h : FrameHeader) (s : State) : (frameDispatch h s).pos = s.pos := by
  obtain ⟨-, -, e⟩ | ⟨-, -, e⟩ | ⟨-, -, -, e⟩ | ⟨-, -, e⟩ := frameDispatch_cases h s <;> rw [e] <;> rfl

/-! ### One byte of RX -/

/-- A transfer together with the instruction it completes (R94). -/
def Transfer.settled (t : Transfer) : State :=
  match t.complete with
  | none => t.state
  | some h => t.state.frameComplete (frameDispatch h)

/-- The state after one byte of RX and whatever it completes (R92, R93, R94). -/
def State.afterByte (s : State) (b : Byte) : State := (rxByte s b).settled

/-- What a step answers for what it has fetched. -/
def Fetched.outcome (s : State) : Fetched → Result
  | .wait => .next s
  | .moved t => .next t
  | .run i t => exec i t

theorem step_eq_outcome (s : State) : step s = (fetch s).outcome s := by
  rw [step]
  cases fetch s <;> rfl

theorem outcome_rxByte (s t : State) (b : Byte) : (accept t (.rxByte b)).outcome s = .next (t.afterByte b) := by
  simp only [accept, State.afterByte, Transfer.settled]
  cases (rxByte t b).complete with
  | none => rfl
  | some h => exact exec_instrOfHeader h _

/-- A header byte before the ninth (R92). -/
theorem State.afterByte_collect {s : State} (b : Byte) (hst : s.st = .hdr) (hc : s.hcnt < 8) :
    s.afterByte b = { s with hb := s.hb.set s.hcnt b, pos := s.pos + 1, hcnt := s.hcnt + 1 } := by
  simp only [State.afterByte, rxByte, hst, headerByte_collect b hc, Transfer.settled]

/-- The ninth header byte of a frame with a payload (R92). -/
theorem State.afterByte_header {s : State} (b : Byte) (hst : s.st = .hdr) (hc : s.hcnt = 8)
    (hl : (decodeHeader (s.hb.set 8 b)).length ≠ 0#24) :
    s.afterByte b = { { s with hb := s.hb.set 8 b, pos := s.pos + 1 }.latchHeader (decodeHeader (s.hb.set 8 b)) with
      prem := (decodeHeader (s.hb.set 8 b)).length, st := .pay } := by
  simp only [State.afterByte, rxByte, hst, headerByte_ninth b hc, hl, if_false, Transfer.settled]

/-- The ninth header byte of a frame without payload (R92, R94). -/
theorem State.afterByte_emptyFrame {s : State} (b : Byte) (hst : s.st = .hdr) (hc : s.hcnt = 8)
    (hl : (decodeHeader (s.hb.set 8 b)).length = 0#24) :
    s.afterByte b = frameDispatch (decodeHeader (s.hb.set 8 b))
      { { s with hb := s.hb.set 8 b, pos := s.pos + 1 }.latchHeader (decodeHeader (s.hb.set 8 b)) with
        fcnt := s.fcnt + 1#32 } := by
  simp only [State.afterByte, rxByte, hst, headerByte_ninth b hc, hl, if_true, Transfer.settled]
  rw [State.frameComplete_of_ready (by simp [State.rxReady])]
  rfl

/-- A payload byte before the last (R93). -/
theorem State.afterByte_payload {s : State} (b : Byte) (hst : s.st = .pay) (hp : s.prem ≠ 1#24) :
    s.afterByte b = { { s with pos := s.pos + 1 }.capture b with prem := s.prem - 1#24 } := by
  simp only [State.afterByte, rxByte, hst, payloadByte_more b hp, Transfer.settled]

/-- The last payload byte (R93, R94). -/
theorem State.afterByte_lastPayload {s : State} (b : Byte) (hst : s.st = .pay) (hp : s.prem = 1#24) :
    s.afterByte b = frameDispatch s.h { { s with pos := s.pos + 1 }.capture b with
      prem := 0#24, fcnt := s.fcnt + 1#32 } := by
  simp only [State.afterByte, rxByte, hst, payloadByte_last b hp, Transfer.settled]
  rw [State.frameComplete_of_ready (by simp [State.rxReady])]
  simp

theorem counter_lt_or_eq (c : Fin 9) : c < 8 ∨ c = 8 := by omega

/-- The induction a proof about one byte in the loop follows: the five things it can be (R92, R93). -/
theorem State.afterByte_induction {P : State → Prop} {s : State} (b : Byte) (hr : s.rxReady = true)
    (collect : s.st = .hdr → s.hcnt < 8 →
      P { s with hb := s.hb.set s.hcnt b, pos := s.pos + 1, hcnt := s.hcnt + 1 })
    (header : ∀ x, s.st = .hdr → s.hcnt = 8 → x = decodeHeader (s.hb.set 8 b) → x.length ≠ 0#24 →
      P { { s with hb := s.hb.set 8 b, pos := s.pos + 1 }.latchHeader x with prem := x.length, st := .pay })
    (emptyFrame : ∀ x, s.st = .hdr → s.hcnt = 8 → x = decodeHeader (s.hb.set 8 b) → x.length = 0#24 →
      P (frameDispatch x { { s with hb := s.hb.set 8 b, pos := s.pos + 1 }.latchHeader x with fcnt := s.fcnt + 1#32 }))
    (payload : s.st = .pay → s.prem ≠ 1#24 →
      P { { s with pos := s.pos + 1 }.capture b with prem := s.prem - 1#24 })
    (lastPayload : s.st = .pay → s.prem = 1#24 →
      P (frameDispatch s.h { { s with pos := s.pos + 1 }.capture b with prem := 0#24, fcnt := s.fcnt + 1#32 })) :
    P (s.afterByte b) := by
  obtain hst | hst := s.rxReady_iff.mp hr
  · obtain hc | hc := counter_lt_or_eq s.hcnt
    · rw [State.afterByte_collect b hst hc]
      exact collect hst hc
    · by_cases hl : (decodeHeader (s.hb.set 8 b)).length = 0#24
      · rw [State.afterByte_emptyFrame b hst hc hl]
        exact emptyFrame _ hst hc rfl hl
      · rw [State.afterByte_header b hst hc hl]
        exact header _ hst hc rfl hl
  · by_cases hp : s.prem = 1#24
    · rw [State.afterByte_lastPayload b hst hp]
      exact lastPayload hst hp
    · rw [State.afterByte_payload b hst hp]
      exact payload hst hp

/-- A byte in the loop adds one to `pos` (R12). -/
theorem State.afterByte_pos {s : State} (b : Byte) (hr : s.rxReady = true) : (s.afterByte b).pos = s.pos + 1 := by
  refine State.afterByte_induction (P := fun u => u.pos = s.pos + 1) b hr ?_ ?_ ?_ ?_ ?_ <;> intros <;> simp

theorem State.afterByte_collected {s : State} (b : Byte) (hr : s.rxReady = true) : Collected s (s.afterByte b) := by
  refine State.afterByte_induction (P := Collected s) b hr ?collect ?header ?emptyFrame ?payload ?lastPayload
  case collect => exact fun _ _ => ⟨rfl, ⟨rfl, rfl, rfl, rfl⟩, [], (List.append_nil _).symm⟩
  case header => exact fun _ _ _ _ _ => ⟨rfl, ⟨rfl, rfl, rfl, rfl⟩, _, rfl⟩
  case emptyFrame =>
    intro x _ _ _ _
    obtain ⟨env, ⟨status, err, pos, log⟩, ev, evlog⟩ := frameDispatch_collected x
      { { s with hb := s.hb.set 8 b, pos := s.pos + 1 }.latchHeader x with fcnt := s.fcnt + 1#32 }
    exact ⟨env, ⟨status, err, pos, log⟩, .header x :: ev, by simpa using evlog⟩
  case payload => exact fun _ _ => ⟨by simp, ⟨by simp, by simp, by simp, by simp⟩, [], by simp⟩
  case lastPayload =>
    intro _ _
    obtain ⟨env, ⟨status, err, pos, log⟩, ev, evlog⟩ := frameDispatch_collected s.h
      { { s with pos := s.pos + 1 }.capture b with prem := 0#24, fcnt := s.fcnt + 1#32 }
    exact ⟨by simpa using env, ⟨by simpa using status, by simpa using err, by simpa using pos, by simpa using log⟩, ev,
      by simpa using evlog⟩

end Sys2Proof.Machine
end

section
/-! SUPPORT. One step, seen from the encoder and from the DSP unit, and the supply as a source of inputs. -/

namespace Sys2Proof.Machine

/-! ### What a step may do -/

/-- What a step but a RESET may do to the encoder (R33, R73): append to TX, and leave the latch in form. -/
structure EncStep (s u : State) : Prop where
  tx : ∃ v, u.txlog = s.txlog ++ v ∧ u.txPos = s.txPos + v.length
  latch : (s.encErr ≠ 0#3 ↔ s.encStatus = .precondition) → (u.encErr ≠ 0#3 ↔ u.encStatus = .precondition)

/-- What a step but a RESET may do to the DSP unit: nothing, START in IDLE (R121), one byte of RX (R92, R93), or the fault
TRANSPORT (R107). -/
inductive DspStep (s u : State) : Prop
  | unchanged (h : SameDsp s u)
  | started (hst : s.st = .idle) (h : SameDsp { s with st := .hdr, hcnt := 0 } u)
  | byte (ready : s.rxReady = true) (taken : TakesRxByte s u) (e : Env) (b : Byte)
      (h : u = { s with env := e, out := .quiet }.afterByte b)
  | error (ready : s.rxReady = true) (h : SameDsp (s.raise .transport) u)

theorem EncStep.of_same {s u : State} (h : SameEnc s u) : EncStep s u where
  tx := ⟨[], by simp [h.txlog], by simp [h.txPos]⟩
  latch := by rw [h.encErr, h.encStatus]; exact id

theorem EncStep.of_txWrite {s u : State} (v : List Byte) (hlog : u.txlog = (s.txWrite v).txlog)
    (hpos : u.txPos = (s.txWrite v).txPos)
    (hlatch : (s.encErr ≠ 0#3 ↔ s.encStatus = .precondition) → (u.encErr ≠ 0#3 ↔ u.encStatus = .precondition)) :
    EncStep s u :=
  ⟨⟨v, hlog, hpos⟩, hlatch⟩

/-! ### The instructions of the ports -/

/-- A header is refused with a violation at least (R71). -/
theorem encodeHeader_err {type flags : Byte} {r : Bit} {sid plen : Word32} {e : BitVec 3}
    (h : encodeHeader type flags r sid plen = .err e) : e ≠ 0#3 := by
  simp only [encodeHeader] at h
  split at h
  case isTrue hv => exact EncResult.err.inj h ▸ hv
  case isFalse => cases h

theorem State.emitFrame_sameDsp (s : State) (hdr : Vector Byte 9) (payload : List Byte) :
    SameDsp s (s.emitFrame hdr payload) := by
  obtain ⟨v, hv⟩ := s.sinkWrite_state (hdr.toList ++ payload)
  rw [State.emitFrame, hv]
  constructor <;> rfl

theorem State.emitFrame_encStep (s : State) (hdr : Vector Byte 9) (payload : List Byte) :
    EncStep s (s.emitFrame hdr payload) := by
  obtain ⟨v, hv⟩ := s.sinkWrite_state (hdr.toList ++ payload)
  rw [State.emitFrame, hv]
  refine .of_txWrite v rfl rfl fun _ => ?_
  cases (s.sinkWrite (hdr.toList ++ payload)).2 <;> simp

/-- ENCODE leaves the DSP unit as it is and, where it answers, does to the encoder what a step may do (R73, R122). -/
theorem execEncode_effect {type flags : Byte} {r : Bit} {sid plen : Word32} {payload : List Byte} {s u : State}
    (h : execEncode type flags r sid plen payload s = .next u) : EncStep s u ∧ SameDsp s u := by
  obtain ⟨-, e⟩ | ⟨-, v, hv, e⟩ | ⟨-, hdr, -, ⟨-, e⟩ | ⟨-, e⟩⟩ := execEncode_cases type flags r sid plen payload s <;>
    rw [h] at e
  · cases e
    exact ⟨.of_same (by constructor <;> rfl), by constructor <;> rfl⟩
  · cases e
    exact ⟨.of_txWrite [] (by simp) (by simp) (by simp [encodeHeader_err hv]), by constructor <;> rfl⟩
  · cases e
  · cases e
    refine ⟨?_, ?_⟩
    · obtain ⟨tx, latch⟩ := State.emitFrame_encStep _ hdr _
      exact ⟨tx, latch⟩
    · exact { State.emitFrame_sameDsp _ hdr _ with }

/-- The request is an asserted `rst` wire and its answer the reset state (R120), or it does what a step may do. -/
theorem exec_request_effect {w : HostWord} {i : Instr} {s u : State} (hd : decode (.host w) = .ok i)
    (h : exec i s = .next u) :
    (w = .rst 1#1 ∧ u = { State.reset with env := s.env }) ∨
    (EncStep s u ∧ (SameDsp s u ∨ s.st = .idle ∧ SameDsp { s with st := .hdr, hcnt := 0 } u)) := by
  have shown : ∀ r : OpResult, EncStep s (s.present r) ∧ SameDsp s (s.present r) := fun r =>
    ⟨.of_same (by constructor <;> rfl), by constructor <;> rfl⟩
  cases w with
  | encHdr q => cases hd; cases h; exact .inr ((shown _).imp_right .inl)
  | encode q payload => cases hd; exact .inr ((execEncode_effect h).imp_right .inl)
  | decode x => cases hd; cases h; exact .inr ((shown _).imp_right .inl)
  | typeClassify t => cases hd; cases h; exact .inr ((shown _).imp_right .inl)
  | flagsTrunc v => cases hd; cases h; exact .inr ((shown _).imp_right .inl)
  | flagsUnion ab => cases hd; cases h; exact .inr ((shown _).imp_right .inl)
  | flagsContains vf => cases hd; cases h; exact .inr ((shown _).imp_right .inl)
  | goawayParse g => cases hd; cases h; exact .inr ((shown _).imp_right .inl)
  | errcodeDecode e => cases hd; cases h; exact .inr ((shown _).imp_right .inl)
  | rst wire =>
    by_cases hw : wire = 1#1
    · subst hw
      cases hd
      cases h
      exact .inl ⟨rfl, rfl⟩
    · simp [decode, decodeHost, hw] at hd
  | start wire =>
    by_cases hw : wire = 1#1
    · subst hw
      cases hd
      cases h
      by_cases hs : s.st = .idle
      · rw [if_pos hs]
        exact .inr ⟨.of_same (by constructor <;> rfl), .inr ⟨hs, .refl _⟩⟩
      · rw [if_neg hs]
        exact .inr ⟨.of_same (by constructor <;> rfl), .inl (.refl _)⟩
    · simp [decode, decodeHost, hw] at hd

/-! ### One step -/

theorem Offers.env {s t : State} (h : Offers s t) : ∃ e, t = { s with env := e } := by
  obtain rfl | hd := h
  · exact ⟨_, rfl⟩
  · obtain ⟨i, rest, -, rfl⟩ := State.drawn_some hd
    exact ⟨_, rfl⟩

theorem State.writePreface_effect (s : State) (e : Option Nat) :
    EncStep s (s.writePreface e) ∧ SameDsp s (s.writePreface e) := by
  obtain ⟨v, hv⟩ := State.sinkWrite_state { s with env := { s.env with txErr := e } } Config.preface
  rw [State.writePreface, hv]
  exact ⟨.of_txWrite v rfl rfl id, by constructor <;> rfl⟩

/-- What taking the input `i` does, in a state in which it is offered and can be taken. -/
theorem accept_effect {s t u : State} {before after : List Input} {i : Input} (ho : Offers s t)
    (hl : t.env.inputs = before ++ i :: after) (he : t.enabled i = true)
    (h : (accept (t.take (before ++ after)) i).outcome s = .next u) :
    TakesReset s u ∨ (EncStep s u ∧ DspStep s u) := by
  obtain ⟨e, rfl⟩ := ho.env
  cases i with
  | rxByte b =>
    rw [outcome_rxByte] at h
    cases h
    have collected := State.afterByte_collected (s := State.take { s with env := e } (before ++ after)) b he
    have enc : SameEnc s _ := { collected.enc with }
    exact .inr ⟨.of_same enc, .byte he ⟨_, before, after, b, ho, hl, collected.env⟩ _ b rfl⟩
  | rxErr =>
    rw [accept, rxError_of_ready (by exact he)] at h
    cases h
    exact .inr ⟨.of_same (by constructor <;> rfl), .error he (by constructor <;> rfl)⟩
  | rxErrByte b =>
    rw [accept, rxError_of_ready (by exact he)] at h
    cases h
    exact .inr ⟨.of_same (by constructor <;> rfl), .error he (by constructor <;> rfl)⟩
  | request w txErr =>
    cases hd : decode (.host w) with
    | ok j =>
      rw [accept_request txErr hd] at h
      obtain ⟨rfl, rfl⟩ | ⟨⟨tx, latch⟩, same | ⟨idle, same⟩⟩ := exec_request_effect hd h
      · exact .inl ⟨_, before, after, ho, .inl ⟨txErr, hl, rfl⟩⟩
      · exact .inr ⟨⟨tx, latch⟩, .unchanged { same with }⟩
      · exact .inr ⟨⟨tx, latch⟩, .started idle { same with }⟩
    | error x =>
      simp only [accept, hd] at h
      cases h
      exact .inr ⟨.of_same (by constructor <;> rfl), .unchanged (by constructor <;> rfl)⟩
  | preface txErr =>
    cases h
    obtain ⟨⟨tx, latch⟩, same⟩ := State.writePreface_effect (State.take { s with env := e } (before ++ after)) txErr
    exact .inr ⟨⟨tx, latch⟩, .unchanged { same with }⟩
  | resetWith other =>
    cases h
    exact .inl ⟨_, before, after, ho, .inr ⟨other, hl, rfl⟩⟩

/-- Everything a step that answers a next state can do: a RESET, or what `EncStep` and `DspStep` say. -/
theorem step_effect {s u : State} (h : step s = .next u) : TakesReset s u ∨ (EncStep s u ∧ DspStep s u) := by
  rw [step_eq_outcome] at h
  obtain hf | ⟨t, hd, hf⟩ | ⟨t, before, after, i, ho, hl, he, hf⟩ := fetch_cases s <;> rw [hf] at h
  · cases h
    exact .inr ⟨.of_same (by constructor <;> rfl), .unchanged (.refl _)⟩
  · obtain ⟨_, _, _, rfl⟩ := State.drawn_some hd
    cases h
    exact .inr ⟨.of_same (by constructor <;> rfl), .unchanged (by constructor <;> rfl)⟩
  · exact accept_effect ho hl he h

/-- A RESET leaves every register at its reset value (R28, R120). -/
theorem TakesReset.state {s u : State} (h : TakesReset s u) : ∃ e, u = { State.reset with env := e } := by
  obtain ⟨_, _, _, -, ⟨_, -, rfl⟩ | ⟨_, -, rfl⟩⟩ := h <;> exact ⟨_, rfl⟩

theorem DspStep.evlog {s u : State} (h : DspStep s u) : ∃ ev, u.evlog = s.evlog ++ ev := by
  cases h with
  | unchanged h => exact ⟨[], by simp [h.evlog]⟩
  | started _ h => exact ⟨[], by simp [h.evlog]⟩
  | byte ready _ e b h => exact h ▸ (State.afterByte_collected b (by exact ready)).evlog
  | error _ h => exact ⟨_, h.evlog⟩

/-! ### The supply -/

theorem takeFirst_eq_none_iff {p : Input → Bool} {l : List Input} : takeFirst p l = none ↔ ∀ i ∈ l, p i = false := by
  refine ⟨fun h => ?_, takeFirst_eq_none⟩
  induction l with
  | nil => simp
  | cons i rest ih =>
    cases hp : p i with
    | true => simp [takeFirst, hp] at h
    | false => simpa [hp] using ih (by simpa [takeFirst, hp] using h)

theorem State.takeListed_eq_none_iff {s : State} : s.takeListed = none ↔ ∀ i ∈ s.env.inputs, s.enabled i = false := by
  simp [State.takeListed, takeFirst_eq_none_iff]

/-- Whether an input can be taken is a matter of the registers, not of the environment (R91, R122). -/
theorem State.enabled_env (s : State) (e : Env) : State.enabled { s with env := e } = s.enabled := by
  funext i
  cases i with
  | request w _ => cases w <;> rfl
  | _ => rfl

theorem State.drawn_of_draw {s : State} {i : Input} {rest : Supply} (h : s.env.supply.draw = some (i, rest)) :
    s.drawn = some { s with env := { s.env with inputs := s.env.inputs ++ [i], supply := rest } } := by
  simp [State.drawn, h]

/-- Taking an input is never a wait. -/
theorem accept_ne_wait (s : State) (i : Input) : accept s i ≠ .wait := by
  cases i with
  | rxByte b =>
    simp only [accept]
    cases (rxByte s b).complete <;> simp
  | request w e =>
    simp only [accept]
    cases decode (.host w) <;> simp
  | _ => simp [accept]

/-- The supply's next input, where it can be taken and no listed one can, is taken as if it were listed (log 26). -/
theorem step_supplied_taken {s t : State} (hl : s.takeListed = none) (hd : s.drawn = some t) (ht : t.takeListed ≠ none) :
    step s = step t := by
  obtain ⟨f, ht⟩ := Option.ne_none_iff_exists'.mp ht
  have hs : fetch s = f := by rw [fetch_drawn hl hd, ht]; rfl
  have hw : f ≠ .wait := by
    obtain ⟨_, _, i, -, -, -, rfl⟩ := State.takeListed_some ht
    exact accept_ne_wait _ i
  rw [step_eq_outcome, step_eq_outcome, hs, fetch_listed ht]
  cases f with
  | wait => exact absurd rfl hw
  | moved => rfl
  | run => rfl

/-- Where it cannot be taken yet, the step only offers it (log 26). -/
theorem step_supplied_offered {s t : State} (hl : s.takeListed = none) (hd : s.drawn = some t) (ht : t.takeListed = none) :
    step s = .next t :=
  step_moved (by rw [fetch_drawn hl hd, ht]; rfl)

end Sys2Proof.Machine
end

section
/-! PROOFS. The statements about one step. -/

namespace Sys2Proof.Machine

/-- Settles O50: every step but a RESET appends to TX, and a RESET empties it. -/
theorem everyStepKeepsTheTxForm : Obligations.EveryStepKeepsTheTxForm := by
  intro s u hs h
  rw [Memory.wf_iff] at *
  obtain hr | ⟨enc, -⟩ := step_effect h
  · obtain ⟨e, rfl⟩ := hr.state
    rfl
  · obtain ⟨v, hlog, hpos⟩ := enc.tx
    rw [hlog, hpos, hs, List.length_append]

/-- Settles O47: what a step appends to the history is `DspStep.evlog`, to TX `EncStep.tx`. -/
theorem historiesOnlyGrow : Obligations.HistoriesOnlyGrow := by
  intro s u h
  obtain hr | ⟨enc, dsp⟩ := step_effect h
  · exact .inr hr
  · obtain ⟨ev, hev⟩ := dsp.evlog
    obtain ⟨v, hlog, -⟩ := enc.tx
    exact .inl ⟨ev, v, hev, hlog⟩

/-- Settles O46: of what a step can do to the DSP unit only a byte in the loop moves `pos`. -/
theorem positionAdvancesByOneByte : Obligations.PositionAdvancesByOneByte := by
  intro s u h
  obtain hr | ⟨-, dsp⟩ := step_effect h
  · exact .inr (.inr hr)
  · cases dsp with
    | unchanged h => exact .inl h.pos
    | started _ h => exact .inl h.pos
    | byte ready taken e b h => exact .inr (.inl ⟨ready, h ▸ State.afterByte_pos b (by exact ready), taken⟩)
    | error _ h => exact .inl h.pos

/-- Settles O53: a step looks behind the listed inputs only where it can take none of them, and `enabled` reads no more of
the environment than the input. -/
theorem supplyIsTakenLikeAListedInput : Obligations.SupplyIsTakenLikeAListedInput := by
  intro s i rest hs hdraw t
  have hl := State.takeListed_none hs
  have hd : s.drawn = some t := State.drawn_of_draw hdraw
  have ht : t.enabled = s.enabled := s.enabled_env _
  refine ⟨fun hi => step_supplied_taken hl hd fun hn => ?_, fun hi => step_supplied_offered hl hd ?_⟩
  · have := State.takeListed_eq_none_iff.mp hn i (by simp [t])
    rw [ht, hi] at this
    cases this
  · refine State.takeListed_none fun j hj => ?_
    obtain hj | rfl : j ∈ s.env.inputs ∨ j = i := by simpa [t] using hj
    · rw [ht]
      exact hs j hj
    · rw [ht]
      exact hi

/-! ### Reset and the outputs -/

/-- Settles O29: it is the definition of RESET. -/
theorem resetRestoresEveryRegister : Obligations.ResetRestoresEveryRegister := fun _ => rfl

/-- Settles O30: it is R28's table, row by row. -/
theorem resetValues : Obligations.ResetValues := by
  unfold Obligations.ResetValues
  decide

/-- Settles O43: nothing is counted, latched or written at reset. -/
theorem resetMeetsTheInvariants : Obligations.ResetMeetsTheInvariants := by
  constructor <;> decide

/-- Settles O51: `done`, `fault`, `rx_ready` and `enc_ready` by the values of `st`, the codes by the values of their registers;
the other outputs are what the registers and the last operation show. -/
theorem statusOutputs : Obligations.StatusOutputs := by
  intro s
  refine ⟨?done, ?fault, s.rxReady_iff, ?encReady, ?st, ?term, ?cause, ?status, rfl, rfl, rfl, rfl, rfl, ?encOk, ?encErr, rfl,
    rfl, rfl, rfl, rfl⟩
  case done => simp [State.ports, State.isDone]
  case fault => simp [State.ports, State.isFault]
  case encReady => cases h : s.st <;> simp [State.ports, State.encReady, h]
  case st => cases h : s.st <;> simp [State.ports, stCode, h]
  case term => cases h : s.termCause <;> simp [State.ports, termCauseCode, h]
  case cause => cases h : s.faultCause <;> simp [State.ports, faultCauseCode, h]
  case status => cases h : s.encStatus <;> simp [State.ports, encStatusCode, h]
  case encOk =>
    intro b h
    simp only [State.ports, State.encPorts, h, encPortsOf]
    rfl
  case encErr =>
    intro e h
    simp only [State.ports, State.encPorts, h, encPortsOf]

end Sys2Proof.Machine
end

section
/-! PROOFS. The invariants of R29 along a step. -/

namespace Sys2Proof.Machine

/-! ### The headers of a history -/

@[simp] theorem headersOf_append (l k : List Event) : headersOf (l ++ k) = headersOf l ++ headersOf k :=
  List.filterMap_append

@[simp] theorem headersOf_header (h : FrameHeader) : headersOf [.header h] = [h] := rfl

@[simp] theorem headersOf_goaway (g : GoawayResult) : headersOf [.goaway g] = [] := rfl

@[simp] theorem headersOf_done (c : TermCause) : headersOf [.done c] = [] := rfl

@[simp] theorem headersOf_fault (c : FaultCause) : headersOf [.fault c] = [] := rfl

theorem State.raise_headers (s : State) (c : FaultCause) : headersOf (s.raise c).evlog = headersOf s.evlog := by simp

theorem State.terminate_headers (s : State) (c : TermCause) : headersOf (s.terminate c).evlog = headersOf s.evlog := by
  simp

theorem State.latchGoaway_headers (s : State) (g : GoawayResult) :
    headersOf (s.latchGoaway g).evlog = headersOf s.evlog := by simp

@[simp] theorem frameBytes_append (l k : List FrameHeader) : frameBytes (l ++ k) = frameBytes l + frameBytes k := by
  simp [frameBytes]

@[simp] theorem frameBytes_single (h : FrameHeader) : frameBytes [h] = 9 + h.length.toNat := by
  simp [frameBytes, Config.hdrBytes]

/-! ### Counting down and up -/

theorem prem_pred_toNat {p : Len} (h : p ≠ 0#24) : (p - 1#24).toNat = p.toNat - 1 := by
  bv_omega

theorem prem_pred_ne_zero {p : Len} (h : p ≠ 1#24) : p - 1#24 ≠ 0#24 := by
  bv_omega

theorem counter_succ_val {c : Fin 9} (h : c < 8) : (c + 1).val = c.val + 1 := Fin.val_add_one_of_lt h

/-! ### What the invariants say in the loop -/

theorem Inv.termCause_none {s : State} (hi : Inv s) (h : s.st ≠ .done) : s.termCause = .none :=
  not_not.mp fun hn => h (hi.term_iff.mp hn)

theorem Inv.faultCause_none {s : State} (hi : Inv s) (h : s.st ≠ .fault) : s.faultCause = .none :=
  not_not.mp fun hn => h (hi.fault_iff.mp hn)

theorem Inv.gaValid_false {s : State} (hi : Inv s) (h : s.st ≠ .done) : s.gaValid = false := by
  rw [Bool.eq_false_iff]
  intro hg
  rw [hi.ga_iff, hi.termCause_none h] at hg
  cases hg

/-! ### The operations -/

/-- The invariants are about the DSP registers, the encoder's latch and the length of TX. -/
theorem Inv.of_sameDsp {s u : State} (hi : Inv s) (dsp : SameDsp s u) (enc : EncStep s u) : Inv u where
  hcnt_zero := by rw [dsp.st, dsp.hcnt]; exact hi.hcnt_zero
  pay_hv := by rw [dsp.st, dsp.hv]; exact hi.pay_hv
  pay_prem := by rw [dsp.st, dsp.prem, dsp.h]; exact hi.pay_prem
  pay_gcnt := by rw [dsp.st, dsp.prem, dsp.h, dsp.gcnt]; exact hi.pay_gcnt
  prem_zero := by rw [dsp.st, dsp.prem]; exact hi.prem_zero
  term_iff := by rw [dsp.st, dsp.termCause]; exact hi.term_iff
  fault_iff := by rw [dsp.st, dsp.faultCause]; exact hi.fault_iff
  ga_iff := by rw [dsp.gaValid, dsp.termCause]; exact hi.ga_iff
  encErr_iff := enc.latch hi.encErr_iff
  tx_wf := by
    obtain ⟨v, hlog, hpos⟩ := enc.tx
    rw [hlog, hpos, hi.tx_wf, List.length_append]
  position := by rw [dsp.st, dsp.pos, dsp.prem, dsp.evlog, dsp.hcnt]; exact hi.position
  position_fault := by rw [dsp.st, dsp.pos, dsp.prem, dsp.evlog]; exact hi.position_fault
  frames := by rw [dsp.fcnt, dsp.prem, dsp.evlog]; exact hi.frames
  latest := by rw [State.hdrPorts, dsp.evlog, dsp.hv, dsp.h]; exact hi.latest

/-- START (R121). -/
theorem Inv.start {s : State} (hi : Inv s) (hst : s.st = .idle) : Inv { s with st := .hdr, hcnt := 0 } :=
  have hc : s.hcnt = 0 := hi.hcnt_zero (by simp [hst])
  have hp : s.prem = 0#24 := hi.prem_zero (by simp [hst]) (by simp [hst])
  { hi with
    hcnt_zero := by simp
    pay_hv := by simp
    pay_prem := by simp
    pay_gcnt := by simp
    prem_zero := fun _ _ => hp
    term_iff := by simp [hi.termCause_none (by simp [hst])]
    fault_iff := by simp [hi.faultCause_none (by simp [hst])]
    position := fun _ => by simpa [hc] using hi.position (by simp [hst])
    position_fault := by simp }

/-- The fault entry from the loop (R146): at most the bytes of a header cut short are counted beside the frames begun. -/
theorem Inv.raise {s : State} (hi : Inv s) (hr : s.rxReady = true) {c : FaultCause} (hc : c ≠ .none) : Inv (s.raise c) := by
  have hst := s.rxReady_iff.mp hr
  have hd : s.st ≠ .done := by rintro h; simp [h] at hst
  have hf : s.st ≠ .fault := by rintro h; simp [h] at hst
  exact { hi with
    hcnt_zero := by simp
    pay_hv := by simp
    pay_prem := by simp
    pay_gcnt := by simp
    prem_zero := by simp
    term_iff := by simp [hi.termCause_none hd]
    fault_iff := by simp [hc]
    ga_iff := by simp [hi.ga_iff]
    position := by simp
    position_fault := fun _ => by
      have := hi.position hf
      simp
      omega
    frames := by rw [State.raise_headers]; exact hi.frames
    latest := by rw [State.raise_headers]; exact hi.latest }

/-- The end of a run from the state that awaits the next frame (R95). -/
theorem Inv.terminate_dataEndStream {s : State} (hi : Inv s) (hst : s.st = .hdr) (hc : s.hcnt = 0) :
    Inv (s.terminate .dataEndStream) :=
  { hi with
    hcnt_zero := by simp [hc]
    pay_hv := by simp
    pay_prem := by simp
    pay_gcnt := by simp
    prem_zero := by simpa using hi.prem_zero (by simp [hst]) (by simp [hst])
    term_iff := by simp
    fault_iff := by simp [hi.faultCause_none (by simp [hst])]
    ga_iff := by simp [hi.gaValid_false (by simp [hst])]
    position := fun _ => by rw [State.terminate_headers]; exact hi.position (by simp [hst])
    position_fault := by simp
    frames := by rw [State.terminate_headers]; exact hi.frames
    latest := by rw [State.terminate_headers]; exact hi.latest }

/-- The end of a run that latches a GOAWAY (R102). -/
theorem Inv.terminate_goaway {s : State} (hi : Inv s) (hst : s.st = .hdr) (hc : s.hcnt = 0) (g : GoawayResult) :
    Inv ((s.latchGoaway g).terminate .goaway) :=
  { hi with
    hcnt_zero := by simp [hc]
    pay_hv := by simp
    pay_prem := by simp
    pay_gcnt := by simp
    prem_zero := by simpa using hi.prem_zero (by simp [hst]) (by simp [hst])
    term_iff := by simp
    fault_iff := by simp [hi.faultCause_none (by simp [hst])]
    ga_iff := by simp
    position := fun _ => by rw [State.terminate_headers, State.latchGoaway_headers]; exact hi.position (by simp [hst])
    position_fault := by simp
    frames := by rw [State.terminate_headers, State.latchGoaway_headers]; exact hi.frames
    latest := by rw [State.terminate_headers, State.latchGoaway_headers]; exact hi.latest }

/-- A dispatch keeps the invariants where to go on with the next frame would. -/
theorem Inv.frameDispatch {s : State} (hi : Inv s.awaitFrame) (hc : s.hcnt = 0) (h : FrameHeader) :
    Inv (frameDispatch h s) := by
  obtain ⟨-, -, e⟩ | ⟨-, -, e⟩ | ⟨-, -, -, e⟩ | ⟨-, -, e⟩ := frameDispatch_cases h s <;> rw [e]
  · exact hi.terminate_goaway rfl hc _
  · exact hi.raise rfl (by simp)
  · exact hi.terminate_dataEndStream rfl hc
  · exact hi

/-- A header byte before the ninth (R92). -/
theorem Inv.collect {s : State} (hi : Inv s) (b : Byte) (hst : s.st = .hdr) (hc : s.hcnt < 8) :
    Inv { s with hb := s.hb.set s.hcnt b, pos := s.pos + 1, hcnt := s.hcnt + 1 } :=
  { hi with
    hcnt_zero := by simp [hst]
    position := fun hf => by
      have := hi.position hf
      have := counter_succ_val hc
      simp only
      omega
    position_fault := by simp [hst] }

/-- The ninth header byte: the frame begun counts with its payload still to come (R92). -/
theorem Inv.header {s : State} (hi : Inv s) (b : Byte) (hst : s.st = .hdr) (hc : s.hcnt = 8) {x : FrameHeader}
    (hl : x.length ≠ 0#24) :
    Inv { { s with hb := s.hb.set 8 b, pos := s.pos + 1 }.latchHeader x with prem := x.length, st := .pay } := by
  have hp : s.prem = 0#24 := hi.prem_zero (by simp [hst]) (by simp [hst])
  have pos := hi.position (by simp [hst])
  have frames := hi.frames
  simp only [hp, hc] at pos frames
  exact { hi with
    hcnt_zero := by simp
    pay_hv := by simp
    pay_prem := fun _ => ⟨by simpa using (by bv_omega : 1 ≤ x.length.toNat), by simp⟩
    pay_gcnt := by simp
    prem_zero := by simp
    term_iff := by simp [hi.termCause_none (by simp [hst])]
    fault_iff := by simp [hi.faultCause_none (by simp [hst])]
    position := fun _ => by
      simp at pos ⊢
      omega
    position_fault := by simp
    frames := by
      simp [hl] at frames ⊢
      rw [frames, BitVec.ofNat_add]
    latest := by simp [State.hdrPorts] }

/-- The ninth header byte of a frame without payload, which is counted at once (R92, R94). -/
theorem Inv.emptyFrame {s : State} (hi : Inv s) (b : Byte) (hst : s.st = .hdr) (hc : s.hcnt = 8) {x : FrameHeader}
    (hl : x.length = 0#24) :
    Inv { { s with hb := s.hb.set 8 b, pos := s.pos + 1 }.latchHeader x with fcnt := s.fcnt + 1#32 }.awaitFrame := by
  have hp : s.prem = 0#24 := hi.prem_zero (by simp [hst]) (by simp [hst])
  have pos := hi.position (by simp [hst])
  have frames := hi.frames
  simp only [hp, hc] at pos frames
  exact { hi with
    hcnt_zero := by simp
    pay_hv := by simp
    pay_prem := by simp
    pay_gcnt := by simp
    prem_zero := by simp [hp]
    term_iff := by simp [hi.termCause_none (by simp [hst])]
    fault_iff := by simp [hi.faultCause_none (by simp [hst])]
    position := fun _ => by
      simp [hp, hl] at pos ⊢
      omega
    position_fault := by simp
    frames := by
      simp [hp] at frames ⊢
      rw [frames, BitVec.ofNat_add]
    latest := by simp [State.hdrPorts] }

/-- `gcnt` after a payload byte (R93). -/
theorem State.capture_gcnt {s : State} (b : Byte) (ht : s.h.type = 0x07#8) :
    (s.capture b).gcnt.val = min 8 (s.gcnt.val + 1) := by
  rw [State.capture, if_pos ht]
  split
  case isTrue hg =>
    rw [counter_succ_val hg]
    omega
  case isFalse hg => omega

/-- A payload byte before the last (R93). -/
theorem Inv.payload {s : State} (hi : Inv s) (b : Byte) (hst : s.st = .pay) (hp : s.prem ≠ 1#24) :
    Inv { { s with pos := s.pos + 1 }.capture b with prem := s.prem - 1#24 } := by
  obtain ⟨low, high⟩ := hi.pay_prem hst
  have hp0 : s.prem ≠ 0#24 := by rintro h; simp [h] at low
  have pred := prem_pred_toNat hp0
  have low' : 1 ≤ s.prem.toNat - 1 := by bv_omega
  exact {
    hcnt_zero := by simpa using hi.hcnt_zero
    pay_hv := by simpa using hi.pay_hv
    pay_prem := fun _ => by
      simp only [State.capture_h, pred]
      omega
    pay_gcnt := fun _ ht => by
      simp only [State.capture_h] at ht ⊢
      rw [State.capture_gcnt b (by exact ht), hi.pay_gcnt hst ht, pred]
      omega
    prem_zero := by simp [hst]
    term_iff := by simpa using hi.term_iff
    fault_iff := by simpa using hi.fault_iff
    ga_iff := by simpa using hi.ga_iff
    encErr_iff := by simpa using hi.encErr_iff
    tx_wf := by simpa using hi.tx_wf
    position := fun _ => by
      have := hi.position (by simp [hst])
      simp only [State.capture_pos, State.capture_evlog, State.capture_hcnt, pred]
      omega
    position_fault := by simp [hst]
    frames := by simpa [hp0, prem_pred_ne_zero hp] using hi.frames
    latest := by simpa [State.hdrPorts] using hi.latest }

/-- The last payload byte, with which the frame is counted (R93, R94). -/
theorem Inv.lastPayload {s : State} (hi : Inv s) (b : Byte) (hst : s.st = .pay) (hp : s.prem = 1#24) :
    Inv { { s with pos := s.pos + 1 }.capture b with prem := 0#24, fcnt := s.fcnt + 1#32 }.awaitFrame := {
  hcnt_zero := by simp
  pay_hv := by simp
  pay_prem := by simp
  pay_gcnt := by simp
  prem_zero := by simp
  term_iff := by simp [hi.termCause_none (by simp [hst])]
  fault_iff := by simp [hi.faultCause_none (by simp [hst])]
  ga_iff := by simpa using hi.ga_iff
  encErr_iff := by simpa using hi.encErr_iff
  tx_wf := by simpa using hi.tx_wf
  position := fun _ => by
    have := hi.position (by simp [hst])
    simp [hp] at this ⊢
    omega
  position_fault := by simp
  frames := by simpa [hp] using hi.frames
  latest := by simpa [State.hdrPorts] using hi.latest }

/-- One byte in the loop, with whatever it completes. -/
theorem Inv.afterByte {s : State} (hi : Inv s) (b : Byte) (hr : s.rxReady = true) : Inv (s.afterByte b) := by
  refine State.afterByte_induction (P := Inv) b hr (hi.collect b) ?header ?emptyFrame (hi.payload b) ?lastPayload
  case header => exact fun x hst hc _ hl => hi.header b hst hc hl
  case emptyFrame => exact fun x hst hc _ hl => (hi.emptyFrame b hst hc hl).frameDispatch rfl x
  case lastPayload =>
    exact fun hst hp => (hi.lastPayload b hst hp).frameDispatch (by simpa using hi.hcnt_zero (by simp [hst])) s.h

/-- Settles O42: a RESET leaves the reset state; of the rest, every thing a step can do to the DSP unit keeps the invariants. -/
theorem everyStepKeepsTheInvariants : Obligations.EveryStepKeepsTheInvariants := by
  intro s u hi h
  obtain hr | ⟨enc, dsp⟩ := step_effect h
  · obtain ⟨e, rfl⟩ := hr.state
    exact resetMeetsTheInvariants.of_sameDsp (by constructor <;> rfl) (.of_same (by constructor <;> rfl))
  · cases dsp with
    | unchanged same => exact hi.of_sameDsp same enc
    | started idle same => exact (hi.start idle).of_sameDsp same ⟨enc.tx, enc.latch⟩
    | byte ready _ e b hu =>
      rw [hu]
      exact (hi.of_sameDsp (by constructor <;> rfl) (.of_same (by constructor <;> rfl))).afterByte b (by exact ready)
    | error ready same => exact (hi.raise ready (by simp)).of_sameDsp same ⟨enc.tx, enc.latch⟩

end Sys2Proof.Machine
end

section
/-! SUPPORT. Reading RX byte by byte: what the environment delivers, runs of several steps, and one read of the frame-level
loop (42_dispatch.md R109) against the steps that make it up. -/

namespace Sys2Proof.Machine

/-! ### Runs of several steps -/

section
variable {M : Host.Core} {s t : M.State}

theorem coreRun_succ (h : M.step s = .next t) (n : Nat) : M.run (n + 1) s = M.run n t := by
  rw [Host.Core.run, h]

theorem coreRun_add {m : Nat} (n : Nat) (h : M.run m s = .next t) : M.run (m + n) s = M.run n t := by
  induction m generalizing s with
  | zero =>
    cases h
    rw [Nat.zero_add]
  | succ m ih =>
    cases hs : M.step s with
    | next u =>
      rw [coreRun_succ hs] at h
      rw [Nat.succ_add, coreRun_succ hs, ih h]
    | fault x => rw [Host.Core.run, hs] at h; cases h
    | refused x => rw [Host.Core.run, hs] at h; cases h

end

/-- `n` steps from `s` answer the state `t`. -/
def Reaches (n : Nat) (s t : State) : Prop := core.run n s = .next t

theorem Reaches.refl (s : State) : Reaches 0 s s := rfl

theorem Reaches.step {n : Nat} {s t u : State} (k : Reaches n t u) (h : Machine.step s = .next t) : Reaches (n + 1) s u := by
  have hs : core.step s = .next t := h
  exact (coreRun_succ hs n).trans k

theorem Reaches.trans {m n : Nat} {s t u : State} (h : Reaches m s t) (k : Reaches n t u) : Reaches (m + n) s u :=
  (coreRun_add n h).trans k

/-! ### What RX delivers -/

/-- The inputs listed in `s`, and the first ones supplied behind them, are these RX items (R26). -/
def State.delivers (s : State) (items : List RxItem) : Prop :=
  ∃ m, s.env.inputs ++ s.env.supply.first m = items.map rxInput

theorem State.delivers_nil {s : State} (h : s.delivers []) : s.env.inputs = [] := by
  obtain ⟨m, hm⟩ := h
  exact (List.append_eq_nil_iff.mp hm).1

theorem State.enabled_rxInput (s : State) (x : RxItem) : s.enabled (rxInput x) = s.rxReady := by
  cases x <;> rfl

/-- In the loop a step takes the next item of RX, whether it is listed or supplied. -/
theorem step_delivered {s : State} {x : RxItem} {items : List RxItem} (hr : s.rxReady = true)
    (h : s.delivers (x :: items)) :
    ∃ t e, State.delivers { s with env := e } items ∧
      step s = (accept { s with env := e, out := .quiet } (rxInput x)).outcome t := by
  obtain ⟨m, hm⟩ := h
  cases hi : s.env.inputs with
  | cons i rest =>
    rw [hi] at hm
    obtain ⟨rfl, htail⟩ := List.cons.inj hm
    refine ⟨s, { s.env with inputs := rest }, ⟨m, htail⟩, ?_⟩
    rw [step_eq_outcome, fetch_head hi (by rw [s.enabled_rxInput, hr])]
    rfl
  | nil =>
    rw [hi] at hm
    cases m with
    | zero => cases hm
    | succ m =>
      rw [Supply.first, List.nil_append] at hm
      cases hd : s.env.supply.draw with
      | none =>
        rw [hd] at hm
        cases hm
      | some p =>
        obtain ⟨i, rest⟩ := p
        rw [hd] at hm
        obtain ⟨rfl, htail⟩ := List.cons.inj hm
        have he : s.enabled (rxInput x) = true := by rw [s.enabled_rxInput, hr]
        refine ⟨{ s with env := { s.env with inputs := s.env.inputs ++ [rxInput x], supply := rest } },
          { s.env with inputs := [], supply := rest }, ⟨m, htail⟩, ?_⟩
        rw [(supplyIsTakenLikeAListedInput s (rxInput x) rest (by simp [hi]) hd).1 he, step_eq_outcome,
          fetch_head (i := rxInput x) (rest := []) (by simp [hi]) (by rw [State.enabled_env, he])]
        rfl

/-- A delivered byte. -/
theorem step_byte {s : State} {b : Byte} {items : List RxItem} (hr : s.rxReady = true)
    (h : s.delivers (.byte b :: items)) :
    ∃ e, State.delivers (State.afterByte { s with env := e, out := .quiet } b) items ∧
      step s = .next (State.afterByte { s with env := e, out := .quiet } b) := by
  obtain ⟨t, e, hd, hs⟩ := step_delivered hr h
  have henv := (State.afterByte_collected (s := { s with env := e, out := .quiet }) b (by exact hr)).env
  refine ⟨e, ?_, by rw [hs]; exact outcome_rxByte ..⟩
  rw [State.delivers, henv]
  exact hd

/-- A delivered error (R107). -/
theorem step_err {s : State} {items : List RxItem} (hr : s.rxReady = true) (h : s.delivers (.err :: items)) :
    ∃ e, step s = .next (State.raise { s with env := e, out := .quiet } .transport) := by
  obtain ⟨t, e, -, hs⟩ := step_delivered hr h
  refine ⟨e, ?_⟩
  rw [hs, rxInput, accept, rxError_of_ready (by exact hr)]
  rfl

/-! ### One read -/

/-- Where the machine stands after a read of `n` bytes begun in `s`, `before` having been read of the same part of the frame:
`P` says what holds after the bytes read. -/
def ReadAgrees (P : List Byte → State → Prop) (n : Nat) (s : State) (before : List Byte) : ReadResult → Prop
  | .got bytes rest =>
    ∃ t, Reaches n s t ∧ P (before ++ bytes) t ∧ bytes.length = n ∧ t.delivers rest
  | .failed k =>
    ∃ t e bytes, Reaches (k + 1) s (State.raise { t with env := e, out := .quiet } .transport) ∧
      P (before ++ bytes) t ∧ bytes.length = k ∧ k < n
  | .short k =>
    ∃ t bytes, Reaches k s t ∧ P (before ++ bytes) t ∧ bytes.length = k ∧ k < n ∧ t.env.inputs = []

/-- A read is as many byte steps: what each byte step keeps, the read keeps. -/
theorem run_readBytes {P : List Byte → State → Prop} {size : Nat}
    (ready : ∀ bs t, P bs t → bs.length < size → t.rxReady = true)
    (byte : ∀ bs t b e, P bs t → bs.length < size → P (bs ++ [b]) (State.afterByte { t with env := e, out := .quiet } b))
    (n : Nat) (items : List RxItem) (before : List Byte) (s : State) (hP : P before s) (hn : before.length + n = size)
    (hd : s.delivers items) : ReadAgrees P n s before (readBytes n items) := by
  induction n generalizing items before s with
  | zero => exact ⟨s, .refl s, by simpa using hP, rfl, hd⟩
  | succ n ih =>
    have hr : s.rxReady = true := ready before s hP (by omega)
    cases items with
    | nil => exact ⟨s, [], .refl s, by simpa using hP, rfl, by omega, s.delivers_nil hd⟩
    | cons x items =>
      cases x with
      | err =>
        obtain ⟨e, hs⟩ := step_err hr hd
        exact ⟨s, e, [], (Reaches.refl _).step hs, by simpa using hP, rfl, by omega⟩
      | byte b =>
        obtain ⟨e, hd', hs⟩ := step_byte hr hd
        have := ih items (before ++ [b]) _ (byte before s b e hP (by omega)) (by simp; omega) hd'
        rw [readBytes]
        cases hread : readBytes n items with
        | got bytes rest =>
          rw [hread] at this
          obtain ⟨t, hrun, hPt, hlen, hdel⟩ := this
          exact ⟨t, hrun.step hs, by simpa using hPt, by simp [hlen], hdel⟩
        | failed k =>
          rw [hread] at this
          obtain ⟨t, e', bytes, hrun, hPt, hlen, hk⟩ := this
          exact ⟨t, e', b :: bytes, hrun.step hs, by simpa using hPt, by simp [hlen], by omega⟩
        | short k =>
          rw [hread] at this
          obtain ⟨t, bytes, hrun, hPt, hlen, hk, hin⟩ := this
          exact ⟨t, b :: bytes, hrun.step hs, by simpa using hPt, by simp [hlen], by omega, hin⟩

theorem readBytes_got_length {n : Nat} {items rest : List RxItem} {bytes : List Byte}
    (h : readBytes n items = .got bytes rest) : items.length = n + rest.length := by
  induction n generalizing items bytes with
  | zero => cases h; simp
  | succ n ih =>
    cases items with
    | nil => cases h
    | cons x items =>
      cases x with
      | err => cases h
      | byte b =>
        rw [readBytes] at h
        cases hread : readBytes n items with
        | got bs r =>
          rw [hread] at h
          cases h
          simp [ih hread]
          omega
        | failed k => rw [hread] at h; cases h
        | short k => rw [hread] at h; cases h

end Sys2Proof.Machine
end

section
/-! PROOFS. The byte-level machine against the frame-level loop (42_dispatch.md R109): what holds after each byte of a frame,
begun at the frame boundary `s`. -/

namespace Sys2Proof.Machine

/-! ### Bytes kept in a buffer -/

/-- The buffer holds the bytes at the head of the list, as far as it goes. -/
def Holds {n : Nat} (v : Vector Byte n) (bs : List Byte) : Prop :=
  ∀ i (hi : i < n), i < bs.length → v[i] = bs.getD i 0

theorem Holds.nil {n : Nat} (v : Vector Byte n) : Holds v [] := fun _ _ h => absurd h (by simp)

/-- The next byte goes to the next place. -/
theorem Holds.set {n i : Nat} {v : Vector Byte n} {bs : List Byte} (h : Holds v bs) (b : Byte) (hi : i < n)
    (hl : i = bs.length) : Holds (v.set i b) (bs ++ [b]) := by
  subst hl
  intro j hj hjl
  obtain hlt | rfl : j < bs.length ∨ j = bs.length := by simp at hjl; omega
  · rw [Vector.getElem_set_ne (h := by omega), List.getD_append _ _ _ _ hlt]
    exact h j hj hlt
  · simp

/-- A byte that comes when the buffer is full changes nothing. -/
theorem Holds.append {n : Nat} {v : Vector Byte n} {bs : List Byte} (h : Holds v bs) (b : Byte) (hl : n ≤ bs.length) :
    Holds v (bs ++ [b]) := by
  intro j hj _
  rw [List.getD_append _ _ _ _ (by omega)]
  exact h j hj (by omega)

theorem Holds.eq_ofFn {n : Nat} {v : Vector Byte n} {bs : List Byte} (h : Holds v bs) (hl : n ≤ bs.length) :
    v = Vector.ofFn fun i => bs.getD i.val 0 := by
  ext i hi
  rw [h i hi (by omega), Vector.getElem_ofFn]

/-- Capture keeps the first eight bytes of a GOAWAY payload (R93). -/
theorem State.capture_holds {s : State} {bs : List Byte} (b : Byte) (ht : s.h.type = 0x07#8)
    (hg : s.gcnt.val = min 8 bs.length) (h : Holds s.ga bs) : Holds (s.capture b).ga (bs ++ [b]) := by
  rw [State.capture, if_pos ht]
  split
  case isTrue hlt => exact h.set b hlt (by omega)
  case isFalse hge => exact h.append b (by omega)

/-! ### How far the loop has come -/

/-- From `s` to `t` the loop has read so many bytes, counted so many frames and reported these headers, and latched no
GOAWAY. -/
structure Progress (s t : State) (consumed frames : Nat) (headers : List FrameHeader) : Prop where
  pos : t.pos = s.pos + consumed
  fcnt : t.fcnt = s.fcnt + BitVec.ofNat 32 frames
  headers : headersOf t.evlog = headersOf s.evlog ++ headers
  goaway : SameGoaway s t

theorem Progress.refl (s : State) : Progress s s 0 0 [] where
  pos := rfl
  fcnt := by simp
  headers := by simp
  goaway := .refl s

/-- The bytes `bs` of a header have been read, and more are to come (R92). -/
structure HeaderRead (s : State) (bs : List Byte) (t : State) : Prop where
  st : t.st = .hdr
  hcnt : t.hcnt.val = bs.length
  hb : Holds t.hb bs
  progress : Progress s t bs.length 0 []

/-- The header `h` and the bytes `bs` of its payload have been read, and more are to come (R93). -/
structure PayloadRead (s : State) (h : FrameHeader) (bs : List Byte) (t : State) : Prop where
  st : t.st = .pay
  hcnt : t.hcnt = 0
  header : t.h = h
  prem : t.prem.toNat + bs.length = h.length.toNat
  gcnt : h.type = 0x07#8 → t.gcnt.val = min 8 bs.length
  ga : h.type = 0x07#8 → Holds t.ga bs
  progress : Progress s t (9 + bs.length) 0 [h]

/-- The whole frame has been read and counted, and is to be dispatched (R94). -/
structure FrameRead (s : State) (h : FrameHeader) (payload : List Byte) (t : State) : Prop where
  hcnt : t.hcnt = 0
  ga : h.type = 0x07#8 → Holds t.ga payload
  progress : Progress s t (9 + payload.length) 1 [h]

/-- What holds in `t` once the header `h` and the bytes `bs` of its payload have been read. -/
inductive InPayload (s : State) (h : FrameHeader) (bs : List Byte) : State → Prop
  | reading {t : State} (more : bs.length < h.length.toNat) (read : PayloadRead s h bs t) : InPayload s h bs t
  | complete {t : State} (all : bs.length = h.length.toNat) (read : FrameRead s h bs t) :
      InPayload s h bs (frameDispatch h t)

/-- What holds in `t` once the bytes `bs` of a header have been read. -/
inductive InHeader (s : State) (bs : List Byte) : State → Prop
  | reading {t : State} (more : bs.length < 9) (read : HeaderRead s bs t) : InHeader s bs t
  | complete {t : State} (all : bs.length = 9) (read : InPayload s (decodeHeader (firstNine bs)) [] t) : InHeader s bs t

theorem HeaderRead.rxReady {s t : State} {bs : List Byte} (h : HeaderRead s bs t) : t.rxReady = true :=
  t.rxReady_iff.mpr (.inl h.st)

theorem PayloadRead.rxReady {s t : State} {h : FrameHeader} {bs : List Byte} (hp : PayloadRead s h bs t) :
    t.rxReady = true :=
  t.rxReady_iff.mpr (.inr hp.st)

theorem InHeader.read_of_lt {s t : State} {bs : List Byte} (h : InHeader s bs t) (hl : bs.length < 9) :
    HeaderRead s bs t := by
  cases h with
  | reading _ read => exact read
  | complete all => omega

theorem InPayload.read_of_lt {s t : State} {h : FrameHeader} {bs : List Byte} (hp : InPayload s h bs t)
    (hl : bs.length < h.length.toNat) : PayloadRead s h bs t := by
  cases hp with
  | reading _ read => exact read
  | complete all => omega

/-- Taking an input out of the environment and lowering the strobes is no progress. -/
theorem HeaderRead.taken {s t : State} {bs : List Byte} (h : HeaderRead s bs t) (e : Env) :
    HeaderRead s bs { t with env := e, out := .quiet } :=
  { h with progress := { h.progress with goaway := { h.progress.goaway with } } }

theorem PayloadRead.taken {s t : State} {h : FrameHeader} {bs : List Byte} (hp : PayloadRead s h bs t) (e : Env) :
    PayloadRead s h bs { t with env := e, out := .quiet } :=
  { hp with progress := { hp.progress with goaway := { hp.progress.goaway with } } }

/-! ### One more byte -/

/-- A header byte, in its three cases (R92). -/
theorem HeaderRead.byte {s t : State} {bs : List Byte} (hr : HeaderRead s bs t) (hl : bs.length < 9) (b : Byte) :
    InHeader s (bs ++ [b]) (t.afterByte b) := by
  obtain ⟨hst, hcnt, hb, pos, fcnt, headers, goaway⟩ := hr
  by_cases hlast : bs.length = 8
  · have hc : t.hcnt = 8 := Fin.ext (by rw [hcnt, hlast]; rfl)
    have hx : t.hb.set 8 b = firstNine (bs ++ [b]) := (hb.set b (by omega) hlast.symm).eq_ofFn (by simp [hlast])
    refine .complete (by simp [hlast]) ?_
    rw [← hx]
    by_cases hz : (decodeHeader (t.hb.set 8 b)).length = 0#24
    · rw [State.afterByte_emptyFrame b hst hc hz]
      refine .complete (by simp [hz]) ⟨rfl, fun _ => .nil _, ?_, ?_, ?_, { goaway with }⟩
      · simp [pos, hlast]
      · simp [fcnt]
      · simp [headers]
    · rw [State.afterByte_header b hst hc hz]
      refine .reading (by simp only [List.length_nil]; bv_omega)
        ⟨rfl, rfl, rfl, rfl, fun _ => rfl, fun _ => .nil _, ?_, ?_, ?_, { goaway with }⟩
      · simp [pos, hlast]
      · simp [fcnt]
      · simp [headers]
  · have hc : t.hcnt < 8 := by omega
    rw [State.afterByte_collect b hst hc]
    refine .reading (by simp; omega) ⟨hst, ?_, hb.set b t.hcnt.isLt hcnt, ?_, fcnt, headers, { goaway with }⟩
    · simp [counter_succ_val hc, hcnt]
    · simp [pos]
      omega

/-- A payload byte, the last or another (R93). -/
theorem PayloadRead.byte {s t : State} {h : FrameHeader} {bs : List Byte} (hr : PayloadRead s h bs t)
    (hl : bs.length < h.length.toNat) (b : Byte) : InPayload s h (bs ++ [b]) (t.afterByte b) := by
  obtain ⟨hst, hcnt, hh, prem, gcnt, ga, pos, fcnt, headers, gaValid, gaR, gaLastSid, gaErrRaw, gaErrKnown⟩ := hr
  subst hh
  have kept (h7 : t.h.type = 0x07#8) : Holds ({ t with pos := t.pos + 1 }.capture b).ga (bs ++ [b]) :=
    State.capture_holds b h7 (gcnt h7) (ga h7)
  by_cases hlast : t.prem = 1#24
  · rw [State.afterByte_lastPayload b hst hlast]
    refine .complete (by simp [hlast] at prem ⊢; omega) ⟨by simp [hcnt], kept, ?_, ?_, ?_, ?_⟩
    · simp [pos]
      omega
    · simp [fcnt]
    · simp [headers]
    · constructor <;> simp [*]
  · have hp0 : t.prem ≠ 0#24 := by bv_omega
    have low : 1 < t.prem.toNat := by bv_omega
    rw [State.afterByte_payload b hst hlast]
    refine .reading (by simp; omega) ⟨by simp [hst], by simp [hcnt], by simp, ?_, fun h7 => ?_, kept, ?_, ?_, ?_, ?_⟩
    · simp only [prem_pred_toNat hp0, List.length_append, List.length_singleton]
      omega
    · have := State.capture_gcnt (s := { t with pos := t.pos + 1 }) b h7
      rw [gcnt h7] at this
      simp only [this, List.length_append, List.length_singleton]
      omega
    · simp [pos]
      omega
    · simp [fcnt]
    · simp [headers]
    · constructor <;> simp [*]

/-- Reading a header, from the frame boundary. -/
theorem run_header {s : State} {items : List RxItem} (hst : s.st = .hdr) (hc : s.hcnt = 0) (hd : s.delivers items) :
    ReadAgrees (InHeader s) 9 s [] (readBytes 9 items) :=
  run_readBytes (fun _ _ h hl => (h.read_of_lt hl).rxReady)
    (fun _ _ b e h hl => ((h.read_of_lt hl).taken e).byte hl b) 9 items [] s
    (.reading (by simp) ⟨hst, by simp [hc], .nil _, .refl s⟩) rfl hd

/-- Reading a payload, after the header. -/
theorem run_payload {s t : State} {h : FrameHeader} {items : List RxItem} (hp : InPayload s h [] t) (hd : t.delivers items) :
    ReadAgrees (InPayload s h) h.length.toNat t [] (readBytes h.length.toNat items) :=
  run_readBytes (fun _ _ h hl => (h.read_of_lt hl).rxReady)
    (fun _ _ b e h hl => ((h.read_of_lt hl).taken e).byte hl b) _ items [] t hp (by simp) hd

/-! ### The ends of an iteration -/

theorem Progress.waiting {s t : State} {consumed frames : Nat} {headers : List FrameHeader}
    (h : Progress s t consumed frames headers) (hr : t.rxReady = true) (hi : t.env.inputs = []) :
    LoopAgrees s t ⟨.waiting, consumed, frames, headers⟩ :=
  ⟨h.pos, h.fcnt, h.headers, hr, hi, h.goaway⟩

/-- The fault TRANSPORT, in the middle of a frame (R107). -/
theorem Progress.transport {s t : State} {consumed frames : Nat} {headers : List FrameHeader}
    (h : Progress s t consumed frames headers) (e : Env) :
    LoopAgrees s (State.raise { t with env := e, out := .quiet } .transport) ⟨.transport, consumed, frames, headers⟩ :=
  ⟨h.pos, h.fcnt, by rw [State.raise_headers]; exact h.headers, rfl, rfl, { h.goaway with }⟩

theorem FrameRead.goaway {s t : State} {h : FrameHeader} {payload : List Byte} (hf : FrameRead s h payload t)
    (h7 : h.type = 0x07#8) (hl : 8 ≤ payload.length) :
    LoopAgrees s ((t.awaitFrame.latchGoaway (goawayParse t.ga)).terminate .goaway)
      ⟨.goaway (goawayParse (firstEight payload)), 9 + payload.length, 1, [h]⟩ := by
  have hga : t.ga = firstEight payload := (hf.ga h7).eq_ofFn hl
  rw [← hga]
  refine ⟨hf.progress.pos, hf.progress.fcnt, ?_, rfl, rfl, rfl⟩
  rw [State.terminate_headers, State.latchGoaway_headers]
  exact hf.progress.headers

theorem FrameRead.goawayShort {s t : State} {h : FrameHeader} {payload : List Byte} (hf : FrameRead s h payload t) :
    LoopAgrees s (t.awaitFrame.raise .goawayShort) ⟨.goawayShort, 9 + payload.length, 1, [h]⟩ :=
  ⟨hf.progress.pos, hf.progress.fcnt, by rw [State.raise_headers]; exact hf.progress.headers, rfl, rfl,
    { hf.progress.goaway with }⟩

theorem FrameRead.dataEndStream {s t : State} {h : FrameHeader} {payload : List Byte} (hf : FrameRead s h payload t) :
    LoopAgrees s (t.awaitFrame.terminate .dataEndStream) ⟨.dataEndStream, 9 + payload.length, 1, [h]⟩ :=
  ⟨hf.progress.pos, hf.progress.fcnt, by rw [State.terminate_headers]; exact hf.progress.headers, rfl, rfl,
    { hf.progress.goaway with }⟩

/-- The outcome of the loop from the next frame boundary is, with this frame, the outcome from here. -/
theorem Progress.loopAgrees {s t u : State} {consumed frames : Nat} {headers : List FrameHeader} {r : LoopRun}
    (hp : Progress s t consumed frames headers) (h : LoopAgrees t u r) :
    LoopAgrees s u ⟨r.ending, consumed + r.consumed, r.frames + frames, headers ++ r.headers⟩ := by
  obtain ⟨ending, n, k, hs⟩ := r
  obtain ⟨pos, fcnt, hdrs, hend⟩ := h
  refine ⟨?_, ?_, ?_, ?_⟩
  · rw [pos, hp.pos, Nat.add_assoc]
  · rw [fcnt, hp.fcnt, BitVec.ofNat_add, BitVec.add_assoc, BitVec.add_comm (BitVec.ofNat 32 frames)]
  · rw [hdrs, hp.headers, List.append_assoc]
  · cases ending with
    | goaway g => exact hend
    | dataEndStream => exact ⟨hend.1, hend.2.1, hp.goaway.trans hend.2.2⟩
    | transport => exact ⟨hend.1, hend.2.1, hp.goaway.trans hend.2.2⟩
    | goawayShort => exact ⟨hend.1, hend.2.1, hp.goaway.trans hend.2.2⟩
    | waiting => exact ⟨hend.1, hend.2.1, hp.goaway.trans hend.2.2⟩

/-! ### The frame-level loop, outcome by outcome -/

section
variable {fuel k : Nat} {items rest rest' : List RxItem} {b payload : List Byte} {h : FrameHeader}

theorem iterate_header_short (hb : readBytes 9 items = .short k) :
    iterate (fuel + 1) items = ⟨.waiting, k, 0, []⟩ := by
  simp [iterate, Config.hdrBytes, hb]

theorem iterate_header_failed (hb : readBytes 9 items = .failed k) :
    iterate (fuel + 1) items = ⟨.transport, k, 0, []⟩ := by
  simp [iterate, Config.hdrBytes, hb]

variable (hb : readBytes 9 items = .got b rest) (hh : decodeHeader (firstNine b) = h)
include hb hh

theorem iterate_payload_short (hp : readBytes h.length.toNat rest = .short k) :
    iterate (fuel + 1) items = ⟨.waiting, 9 + k, 0, [h]⟩ := by
  simp [iterate, Config.hdrBytes, hb, hh, hp]

theorem iterate_payload_failed (hp : readBytes h.length.toNat rest = .failed k) :
    iterate (fuel + 1) items = ⟨.transport, 9 + k, 0, [h]⟩ := by
  simp [iterate, Config.hdrBytes, hb, hh, hp]

variable (hp : readBytes h.length.toNat rest = .got payload rest')
include hp

theorem iterate_goaway (h7 : h.type = 0x07#8) (hl : 8 ≤ h.length.toNat) :
    iterate (fuel + 1) items = ⟨.goaway (goawayParse (firstEight payload)), 9 + h.length.toNat, 1, [h]⟩ := by
  simp [iterate, Config.hdrBytes, hb, hh, hp, h7, hl]

theorem iterate_goawayShort (h7 : h.type = 0x07#8) (hl : h.length.toNat < 8) :
    iterate (fuel + 1) items = ⟨.goawayShort, 9 + h.length.toNat, 1, [h]⟩ := by
  simp [iterate, Config.hdrBytes, hb, hh, hp, h7, hl]

theorem iterate_dataEndStream (h0 : h.type = 0x00#8) (hf : h.flags.getLsbD 0 = true) :
    iterate (fuel + 1) items = ⟨.dataEndStream, 9 + h.length.toNat, 1, [h]⟩ := by
  simp [iterate, Config.hdrBytes, hb, hh, hp, h0, hf]

theorem iterate_next (h7 : h.type ≠ 0x07#8) (hd : ¬(h.type = 0x00#8 ∧ h.flags.getLsbD 0 = true)) :
    iterate (fuel + 1) items = ⟨(iterate fuel rest').ending, 9 + h.length.toNat + (iterate fuel rest').consumed,
      (iterate fuel rest').frames + 1, [h] ++ (iterate fuel rest').headers⟩ := by
  simp only [iterate, Config.hdrBytes, hb, hh, hp]
  rw [if_neg h7, if_neg hd]
  rfl

end

/-! ### The refinement -/

/-- The steps a run of the loop takes: one for each byte read, and one for the error that ended it. -/
def LoopRun.steps (r : LoopRun) : Nat := r.consumed + if r.ending = .transport then 1 else 0

/-- The end of an iteration: the run is over where `Iterate` says so, or both go on with the next frame. -/
theorem FrameRead.dispatched {s t : State} {fuel : Nat} {items rest rest' : List RxItem} {b payload : List Byte}
    {h : FrameHeader} (read : FrameRead s h payload t) (hlen : payload.length = h.length.toNat)
    (hb : readBytes 9 items = .got b rest) (hh : decodeHeader (firstNine b) = h)
    (hp : readBytes h.length.toNat rest = .got payload rest') :
    (LoopAgrees s (frameDispatch h t) (iterate (fuel + 1) items) ∧
      (iterate (fuel + 1) items).steps = 9 + h.length.toNat) ∨
    (frameDispatch h t = t.awaitFrame ∧ Progress s t.awaitFrame (9 + h.length.toNat) 1 [h] ∧
      iterate (fuel + 1) items = ⟨(iterate fuel rest').ending, 9 + h.length.toNat + (iterate fuel rest').consumed,
        (iterate fuel rest').frames + 1, [h] ++ (iterate fuel rest').headers⟩) := by
  obtain ⟨h7, hl, e⟩ | ⟨h7, hl, e⟩ | ⟨-, h0, hf, e⟩ | ⟨h7, hn, e⟩ := frameDispatch_cases h t <;> rw [e]
  · rw [iterate_goaway hb hh hp h7 hl, ← hlen]
    exact .inl ⟨read.goaway h7 (by omega), rfl⟩
  · rw [iterate_goawayShort hb hh hp h7 hl, ← hlen]
    exact .inl ⟨read.goawayShort, rfl⟩
  · rw [iterate_dataEndStream hb hh hp h0 hf, ← hlen]
    exact .inl ⟨read.dataEndStream, rfl⟩
  · have progress : Progress s t.awaitFrame (9 + payload.length) 1 [h] :=
      { read.progress with goaway := { read.progress.goaway with } }
    exact .inr ⟨rfl, hlen ▸ progress, iterate_next hb hh hp h7 hn⟩

/-- From a frame boundary the machine reaches the outcome of the frame-level loop in `LoopRun.steps` steps (R109). -/
theorem reaches_iterate (fuel : Nat) (items : List RxItem) (s : State) (hst : s.st = .hdr) (hc : s.hcnt = 0)
    (hd : s.delivers items) (hfuel : items.length < fuel) :
    ∃ u, Reaches (iterate fuel items).steps s u ∧ LoopAgrees s u (iterate fuel items) := by
  induction fuel generalizing items s with
  | zero => omega
  | succ fuel ih =>
    have header := run_header hst hc hd
    cases hb : readBytes 9 items with
    | short k =>
      rw [hb] at header
      obtain ⟨t, bs, run, hin, rfl, hk, empty⟩ := header
      have read := hin.read_of_lt hk
      rw [iterate_header_short hb]
      exact ⟨t, run, read.progress.waiting read.rxReady empty⟩
    | failed k =>
      rw [hb] at header
      obtain ⟨t, e, bs, run, hin, rfl, hk⟩ := header
      rw [iterate_header_failed hb]
      exact ⟨_, run, (hin.read_of_lt hk).progress.transport e⟩
    | got b rest =>
      rw [hb] at header
      obtain ⟨t, run, hin, hlen, hd'⟩ := header
      obtain ⟨h, hh⟩ : ∃ h, decodeHeader (firstNine b) = h := ⟨_, rfl⟩
      have hpay : InPayload s h [] t := by
        cases hin with
        | reading more => simp [hlen] at more
        | complete all read => exact hh ▸ read
      have payload := run_payload hpay hd'
      cases hp : readBytes h.length.toNat rest with
      | short k =>
        rw [hp] at payload
        obtain ⟨u, bs, run', hin, rfl, hk, empty⟩ := payload
        have read := hin.read_of_lt hk
        rw [iterate_payload_short hb hh hp]
        exact ⟨u, run.trans run', read.progress.waiting read.rxReady empty⟩
      | failed k =>
        rw [hp] at payload
        obtain ⟨u, e, bs, run', hin, rfl, hk⟩ := payload
        rw [iterate_payload_failed hb hh hp]
        exact ⟨_, run.trans run', (hin.read_of_lt hk).progress.transport e⟩
      | got bs rest' =>
        rw [hp] at payload
        obtain ⟨u, run', hin, hbs, hd''⟩ := payload
        replace run := run.trans run'
        cases hin with
        | reading more => simp [hbs] at more
        | @complete v all read =>
          rw [List.nil_append] at read
          obtain ⟨agrees, hsteps⟩ | ⟨e, progress, hiter⟩ := read.dispatched (fuel := fuel) hbs hb hh hp
          · exact ⟨_, hsteps ▸ run, agrees⟩
          · rw [e] at run hd''
            have := readBytes_got_length hb
            have := readBytes_got_length hp
            obtain ⟨w, run', agrees⟩ := ih rest' v.awaitFrame rfl read.hcnt hd'' (by omega)
            rw [hiter]
            refine ⟨w, ?_, progress.loopAgrees agrees⟩
            rw [LoopRun.steps, Nat.add_assoc]
            exact run.trans run'

/-- Settles O45: by the steps of `reaches_iterate`, with fuel beyond the length of what RX delivers. -/
theorem byteMachineRefinesTheFrameLoop : Obligations.ByteMachineRefinesTheFrameLoop := by
  intro s items m hst hc hd
  obtain ⟨u, run, agrees⟩ := reaches_iterate (items.length + 1) items s hst hc ⟨m, hd⟩ (Nat.lt_succ_self _)
  exact ⟨_, u, run, agrees⟩

end Sys2Proof.Machine
end

section
/-! PROOFS. A peer that never stops: the frame-level loop on one frame sent over and over, and the machine with it. -/

namespace Sys2Proof.Machine

/-! ### A supply that goes round -/

theorem Supply.first_cons {supply rest : Supply} {i : Input} (h : supply.draw = some (i, rest)) (n : Nat) :
    supply.first (n + 1) = i :: rest.first n := by
  rw [Supply.first, h]

/-- A period that has been given out begins again. -/
theorem Supply.first_cycle_nil {period : List Input} (hp : period ≠ []) (n : Nat) :
    (Supply.cycle [] period).first n = (Supply.cycle period period).first n := by
  obtain ⟨i, period, rfl⟩ := List.exists_cons_of_ne_nil hp
  cases n with
  | zero => rfl
  | succ n => rw [Supply.first_cons (rest := .cycle period (i :: period)) rfl, Supply.first_cons rfl]

theorem Supply.first_cycle_lt (ahead period : List Input) (n : Nat) (h : n ≤ ahead.length) :
    (Supply.cycle ahead period).first n = ahead.take n := by
  induction ahead generalizing n with
  | nil =>
    obtain rfl : n = 0 := by simpa using h
    rfl
  | cons i ahead ih =>
    cases n with
    | zero => rfl
    | succ n => rw [Supply.first_cons rfl, ih n (by simpa using h), List.take_succ_cons]

theorem Supply.first_cycle_add (ahead period : List Input) (n : Nat) :
    (Supply.cycle ahead period).first (ahead.length + n) = ahead ++ (Supply.cycle [] period).first n := by
  induction ahead with
  | nil => simp
  | cons i ahead ih => rw [List.length_cons, Nat.succ_add, Supply.first_cons rfl, ih, List.cons_append]

/-! ### Reading bytes that are there -/

/-- The RX items of a list of bytes. -/
def rxBytes (bs : List Byte) : List RxItem := bs.map .byte

theorem map_rxInput_rxBytes (bs : List Byte) : (rxBytes bs).map rxInput = bs.map .rxByte := by
  simp [rxBytes, rxInput]

theorem rxBytes_append (bs cs : List Byte) : rxBytes (bs ++ cs) = rxBytes bs ++ rxBytes cs := List.map_append

theorem readBytes_append (bs : List Byte) (rest : List RxItem) :
    readBytes bs.length (rxBytes bs ++ rest) = .got bs rest := by
  induction bs with
  | nil => rfl
  | cons b bs ih =>
    rw [rxBytes] at ih
    simp [rxBytes, readBytes, ih]

theorem readBytes_short {n : Nat} {bs : List Byte} (h : bs.length < n) :
    readBytes n (rxBytes bs) = .short bs.length := by
  induction bs generalizing n with
  | nil =>
    obtain ⟨n, rfl⟩ := Nat.exists_eq_add_one_of_ne_zero (Nat.ne_of_gt h)
    rfl
  | cons b bs ih =>
    obtain ⟨n, rfl⟩ := Nat.exists_eq_add_one_of_ne_zero (Nat.ne_of_gt (Nat.zero_lt_of_lt h))
    have := ih (n := n) (by simpa using h)
    rw [rxBytes] at this
    simp [rxBytes, readBytes, this]

theorem firstNine_toList (b : Vector Byte 9) : firstNine b.toList = b := by
  ext i hi
  simp [firstNine]

/-! ### The loop on one frame, over and over -/

section
variable {b : Vector Byte 9} {payload : List Byte}

theorem readBytes_header (rest : List RxItem) : readBytes 9 (rxBytes b.toList ++ rest) = .got b.toList rest := by
  have := readBytes_append b.toList rest
  rwa [Vector.length_toList] at this

/-- The loop has read `k` bytes, counted the whole frames of `size` bytes among them, and waits. -/
structure WaitsAfter (k size : Nat) (r : LoopRun) : Prop where
  ending : r.ending = .waiting
  consumed : r.consumed = k
  frames : r.frames = k / size

/-- Where the peer has sent a part of its frame. -/
theorem iterate_partOfFrame (hlen : payload.length = (decodeHeader b).length.toNat) {k : Nat}
    (hk : k < 9 + payload.length) (fuel : Nat) :
    WaitsAfter k (9 + payload.length) (iterate (fuel + 1) (rxBytes ((b.toList ++ payload).take k))) := by
  have hdiv : 0 = k / (9 + payload.length) := (Nat.div_eq_of_lt hk).symm
  by_cases h9 : k < 9
  · have hl : ((b.toList ++ payload).take k).length = k := by
      simp
      omega
    rw [iterate_header_short (readBytes_short (by omega)), hl]
    exact ⟨rfl, rfl, hdiv⟩
  · have hl : (payload.take (k - 9)).length = k - 9 := by
      simp
      omega
    have hsplit : (b.toList ++ payload).take k = b.toList ++ payload.take (k - 9) := by
      rw [List.take_append, List.take_of_length_le (by simp; omega), Vector.length_toList]
    rw [hsplit, rxBytes_append,
      iterate_payload_short (readBytes_header _) (by rw [firstNine_toList]) (readBytes_short (by omega)), hl]
    exact ⟨rfl, Nat.add_sub_of_le (Nat.le_of_not_lt h9), hdiv⟩

variable (hlen : payload.length = (decodeHeader b).length.toNat) (h7 : (decodeHeader b).type ≠ 0x07#8)
  (hd : ¬((decodeHeader b).type = 0x00#8 ∧ (decodeHeader b).flags.getLsbD 0 = true))
include hlen h7 hd

/-- Where it has sent a whole frame, and more (R94, R95). -/
theorem iterate_wholeFrame {j fuel : Nat} {items : List RxItem}
    (h : WaitsAfter j (9 + payload.length) (iterate fuel items)) :
    WaitsAfter (9 + payload.length + j) (9 + payload.length)
      (iterate (fuel + 1) (rxBytes (b.toList ++ payload) ++ items)) := by
  have hb : readBytes 9 (rxBytes (b.toList ++ payload) ++ items) = .got b.toList (rxBytes payload ++ items) := by
    rw [rxBytes_append, List.append_assoc]
    exact readBytes_header _
  rw [iterate_next hb (by rw [firstNine_toList]) (hlen ▸ readBytes_append payload items) h7 hd, ← hlen, h.consumed,
    h.frames, ← Nat.add_div_left j (by omega)]
  exact ⟨h.ending, rfl, rfl⟩

/-- Whatever number of bytes the peer has sent, the loop has read them all and waits for more. -/
theorem iterate_cycle (k : Nat) :
    ∃ items, items.length = k ∧
      items.map rxInput = (Supply.cycle [] ((b.toList ++ payload).map .rxByte)).first k ∧
      ∀ fuel, k < fuel → WaitsAfter k (9 + payload.length) (iterate fuel items) := by
  have hsize : ((b.toList ++ payload).map Input.rxByte).length = 9 + payload.length := by simp
  have hperiod : (b.toList ++ payload).map Input.rxByte ≠ [] := List.ne_nil_of_length_pos (by omega)
  induction k using Nat.strong_induction_on with
  | _ k ih =>
    by_cases hk : k < 9 + payload.length
    · refine ⟨rxBytes ((b.toList ++ payload).take k), ?_, ?_, fun fuel hfuel => ?_⟩
      · simp [rxBytes]
        omega
      · rw [Supply.first_cycle_nil hperiod, Supply.first_cycle_lt _ _ _ (by omega), map_rxInput_rxBytes, List.map_take]
      · obtain ⟨fuel, rfl⟩ := Nat.exists_eq_add_one_of_ne_zero (Nat.ne_of_gt (Nat.zero_lt_of_lt hfuel))
        exact iterate_partOfFrame hlen hk fuel
    · obtain ⟨j, rfl⟩ := Nat.exists_eq_add_of_le (Nat.le_of_not_lt hk)
      obtain ⟨items, hlength, hitems, hrun⟩ := ih j (by omega)
      refine ⟨rxBytes (b.toList ++ payload) ++ items, ?_, ?_, fun fuel hfuel => ?_⟩
      · simp [rxBytes, hlength]
        omega
      · rw [Supply.first_cycle_nil hperiod, ← hsize, Supply.first_cycle_add, List.map_append, hitems, map_rxInput_rxBytes]
      · obtain ⟨fuel, rfl⟩ := Nat.exists_eq_add_one_of_ne_zero (Nat.ne_of_gt (Nat.zero_lt_of_lt hfuel))
        exact iterate_wholeFrame hlen h7 hd (hrun fuel (by omega))

end

/-- Settles O54: after `k` steps the machine stands where the loop does that has read `k` bytes of the endless peer. -/
theorem endlessPeerKeepsTheRunGoing : Obligations.EndlessPeerKeepsTheRunGoing := by
  intro s b payload h hst hc hin hsupply hlen h7 h0 k
  have hd : ¬(h.type = 0x00#8 ∧ h.flags.getLsbD 0 = true) := fun ⟨ht, hf⟩ => by
    rw [h0 ht] at hf
    cases hf
  obtain ⟨items, hlength, hitems, hrun⟩ := iterate_cycle hlen h7 hd k
  obtain ⟨hending, hconsumed, hframes⟩ := hrun (k + 1) (Nat.lt_succ_self k)
  have delivers : s.delivers items := ⟨k, by rw [hin, hsupply, hitems, List.nil_append]⟩
  obtain ⟨u, run, pos, fcnt, -, hend⟩ := reaches_iterate (k + 1) items s hst hc delivers (by omega)
  rw [hending] at hend
  rw [hconsumed] at pos
  rw [hframes] at fcnt
  have hsteps : (iterate (k + 1) items).steps = k := by simp [LoopRun.steps, hending, hconsumed]
  rw [hsteps] at run
  exact ⟨u, run, hend.1, pos, fcnt⟩

end Sys2Proof.Machine
end

section
/-! PROOFS. A whole frame read byte by byte: the exact state inside a header and inside a payload, byte after byte, and the
last byte, which runs the frame's instruction (42_dispatch.md R92 to R94). -/

namespace Sys2Proof.Machine

/-! ### Bytes laid over a buffer -/

/-- A buffer after the bytes of a list have been stored in it from place 0 on; what they do not reach it keeps. -/
def overlaid {n : Nat} (v : Vector Byte n) (bs : List Byte) : Vector Byte n :=
  Vector.ofFn fun i => bs.getD i.val v[i]

theorem getElem_overlaid {n i : Nat} (v : Vector Byte n) (bs : List Byte) (hi : i < n) :
    (overlaid v bs)[i] = bs.getD i v[i] := by
  rw [overlaid, Vector.getElem_ofFn]
  rfl

theorem captured_eq_overlaid (ga : Vector Byte 8) (payload : List Byte) : captured ga payload = overlaid ga payload := rfl

@[simp] theorem overlaid_nil {n : Nat} (v : Vector Byte n) : overlaid v [] = v := by
  ext i hi
  rw [getElem_overlaid, List.getD_nil]

/-- Nothing is left of the old bytes once the buffer is full. -/
@[simp] theorem overlaid_toList {n : Nat} (v w : Vector Byte n) : overlaid v w.toList = w := by
  ext i hi
  simp [getElem_overlaid, hi]

/-- The next byte goes to the next place. -/
theorem overlaid_concat {n i : Nat} (v : Vector Byte n) (bs : List Byte) (b : Byte) (hi : i < n) (hl : i = bs.length) :
    overlaid v (bs ++ [b]) = (overlaid v bs).set i b := by
  subst hl
  ext j hj
  rw [getElem_overlaid, Vector.getElem_set, getElem_overlaid]
  obtain hlt | rfl | hgt := Nat.lt_trichotomy j bs.length
  · rw [if_neg (by omega), List.getD_append _ _ _ _ hlt]
  · simp
  · rw [if_neg (by omega), List.getD_eq_default _ _ (by simp; omega), List.getD_eq_default _ _ (by omega)]

/-- A byte that comes when the buffer is full is lost. -/
theorem overlaid_concat_full {n : Nat} (v : Vector Byte n) (bs : List Byte) (b : Byte) (hl : n ≤ bs.length) :
    overlaid v (bs ++ [b]) = overlaid v bs := by
  ext j hj
  rw [getElem_overlaid, getElem_overlaid, List.getD_append _ _ _ _ (by omega)]

/-! ### Bytes at the head of the inputs -/

/-- A byte at the head of the inputs is taken by a step of the loop. -/
theorem step_listedByte {s : State} {b : Byte} {rest : List Input} (hr : s.rxReady = true)
    (hin : s.env.inputs = .rxByte b :: rest) : step s = .next ((s.take rest).afterByte b) := by
  rw [step_eq_outcome, fetch_head hin (by exact hr)]
  exact outcome_rxByte ..

/-- One more byte at the head of the inputs is one more step. -/
theorem Reaches.byte {n : Nat} {s t u : State} {b : Byte} {rest : List Input} (run : Reaches n s t)
    (hr : t.rxReady = true) (hin : t.env.inputs = .rxByte b :: rest) (hu : (t.take rest).afterByte b = u) :
    Reaches (n + 1) s u :=
  run.trans ((Reaches.refl u).step (hu ▸ step_listedByte hr hin))

/-- `F bs e o` is the state after the bytes `bs`, with the environment `e` and the outputs `o`: where a byte leads from one
to the next, as many steps as there are bytes at the head of the inputs lead to the last. -/
theorem reaches_listedBytes {F : List Byte → Env → Out → State} {size : Nat} {e : Env}
    (ready : ∀ bs e o, (F bs e o).rxReady = true) (env : ∀ bs e o, (F bs e o).env = e)
    (take : ∀ bs e o rest, (F bs e o).take rest = F bs { e with inputs := rest } .quiet)
    (byte : ∀ bs b e, bs.length < size → (F bs e .quiet).afterByte b = F (bs ++ [b]) e .quiet)
    (o : Out) (bs : List Byte) (rest : List Input) (hl : bs.length ≤ size) (hin : e.inputs = bs.map .rxByte ++ rest) :
    ∃ o', Reaches bs.length (F [] e o) (F bs { e with inputs := rest } o') := by
  induction bs using List.reverseRecOn generalizing rest with
  | nil =>
    obtain rfl : e.inputs = rest := hin
    exact ⟨o, .refl _⟩
  | append_singleton bs b ih =>
    have hlt : bs.length < size := by simpa using hl
    obtain ⟨o', run⟩ := ih (.rxByte b :: rest) (Nat.le_of_lt hlt) (by simpa using hin)
    rw [List.length_append]
    exact ⟨.quiet, run.byte (ready ..) (by rw [env]) (by rw [take, byte bs b _ hlt])⟩

/-! ### The state inside a frame -/

/-- The state once the bytes `bs` of a header have been taken from the frame boundary `s` (R92). -/
def State.headerTaken (s : State) (bs : List Byte) (e : Env) (o : Out) : State :=
  { s with hb := overlaid s.hb bs, pos := s.pos + bs.length, hcnt := Fin.ofNat 9 bs.length, env := e, out := o }

/-- The state once the header `b` and the bytes `bs` of its payload have come since the frame boundary `s` (R92, R93). -/
def State.payloadTaken (s : State) (b : Vector Byte 9) (bs : List Byte) (e : Env) (o : Out) : State :=
  let h := decodeHeader b
  { s with
    st := .pay
    pos := s.pos + (9 + bs.length)
    hcnt := 0
    hb := b
    hv := true
    h := h
    prem := h.length - BitVec.ofNat 24 bs.length
    ga := if h.type = 0x07#8 then overlaid s.ga bs else s.ga
    gcnt := if h.type = 0x07#8 then Fin.ofNat 9 (min 8 bs.length) else 0
    evlog := s.evlog ++ [.header h]
    env := e
    out := o }

theorem State.headerTaken_nil {s : State} (hc : s.hcnt = 0) : s.headerTaken [] s.env s.out = s := by
  simp [State.headerTaken, ← hc]

/-- A counter up to 8 holds the number of bytes counted. -/
theorem counter_ofNat_val {k : Nat} (h : k ≤ 8) : (Fin.ofNat 9 k).val = k := Nat.mod_eq_of_lt (by omega)

theorem counter_ofNat_lt {k : Nat} (h : k < 8) : Fin.ofNat 9 k < 8 := by
  rwa [Fin.lt_def, counter_ofNat_val (Nat.le_of_lt h)]

theorem counter_ofNat_succ {k : Nat} (h : k < 8) : Fin.ofNat 9 k + 1 = Fin.ofNat 9 (k + 1) := by
  ext
  rw [counter_succ_val (counter_ofNat_lt h), counter_ofNat_val (Nat.le_of_lt h), counter_ofNat_val h]

/-- A header byte before the ninth (R92). -/
theorem State.headerTaken_byte {s : State} (hst : s.st = .hdr) (bs : List Byte) (b : Byte) (e : Env) (o : Out)
    (hl : bs.length < 8) : (s.headerTaken bs e o).afterByte b = s.headerTaken (bs ++ [b]) e o := by
  have hhb : (overlaid s.hb bs).set (Fin.ofNat 9 bs.length) b = overlaid s.hb (bs ++ [b]) :=
    (overlaid_concat s.hb bs b (Fin.isLt _) (counter_ofNat_val (Nat.le_of_lt hl))).symm
  rw [State.afterByte_collect b (by exact hst) (by exact counter_ofNat_lt hl)]
  simp only [State.headerTaken, hhb, counter_ofNat_succ hl, Nat.add_assoc, List.length_append, List.length_singleton]

/-- The header buffer once the ninth byte `x` has come. -/
theorem overlaid_ninth (hb : Vector Byte 9) (v : Vector Byte 8) (x : Byte) : (overlaid hb v.toList).set 8 x = v.push x := by
  rw [← overlaid_concat hb v.toList x (by omega) (by simp), ← Vector.toList_push, overlaid_toList]

/-- The ninth header byte of a frame without payload completes it (R92, R94). -/
theorem State.headerTaken_emptyFrame {s : State} (hst : s.st = .hdr) (v : Vector Byte 8) (x : Byte) (rest : List Input)
    (hl : (decodeHeader (v.push x)).length = 0#24) :
    (s.headerTaken v.toList { s.env with inputs := rest } .quiet).afterByte x =
      (s.afterFrame (v.push x) [] rest).frameComplete (frameDispatch (decodeHeader (v.push x))) := by
  have hhb := overlaid_ninth s.hb v x
  rw [State.afterByte_emptyFrame x (by exact hst) (by simp [State.headerTaken]) (by exact hhb ▸ hl),
    State.frameComplete_of_ready (by simp [State.afterFrame, State.rxReady, hl])]
  simp [State.headerTaken, State.afterFrame, State.latchHeader, State.emit, hhb, hl, hst, Nat.add_assoc,
    captured_eq_overlaid, Config.hdrBytes]

/-- The ninth header byte of a frame with a payload (R92). -/
theorem State.headerTaken_header {s : State} (hst : s.st = .hdr) (v : Vector Byte 8) (x : Byte) (e : Env)
    (hl : (decodeHeader (v.push x)).length ≠ 0#24) :
    (s.headerTaken v.toList e .quiet).afterByte x =
      s.payloadTaken (v.push x) [] e { Out.quiet with hdrStrobe := true } := by
  have hhb := overlaid_ninth s.hb v x
  rw [State.afterByte_header x (by exact hst) (by simp [State.headerTaken]) (by exact hhb ▸ hl)]
  simp [State.headerTaken, State.payloadTaken, State.latchHeader, State.emit, hhb, Nat.add_assoc]

/-- Capture lays the next byte of a GOAWAY payload over `GA`, as long as `GA` is not full (R93). -/
theorem State.capture_goaway {s : State} {ga : Vector Byte 8} {bs : List Byte} (b : Byte) (h7 : s.h.type = 0x07#8)
    (hga : s.ga = overlaid ga bs) (hg : s.gcnt = Fin.ofNat 9 (min 8 bs.length)) :
    s.capture b = { s with ga := overlaid ga (bs ++ [b]), gcnt := Fin.ofNat 9 (min 8 (bs.length + 1)) } := by
  have hv : s.gcnt.val = min 8 bs.length := by rw [hg, counter_ofNat_val (Nat.min_le_left ..)]
  have hgcnt : (s.capture b).gcnt = Fin.ofNat 9 (min 8 (bs.length + 1)) := by
    ext
    rw [State.capture_gcnt b h7, hv, counter_ofNat_val (Nat.min_le_left ..)]
    omega
  have hkept : (s.capture b).ga = overlaid ga (bs ++ [b]) := by
    rw [State.capture, if_pos h7]
    split
    case isTrue hlt => rw [overlaid_concat ga bs b hlt (by omega), hga]
    case isFalse hge => rw [overlaid_concat_full ga bs b (by omega), hga]
  rw [← hgcnt, ← hkept]
  obtain e | ⟨_, e⟩ := s.capture_cases b <;> rw [e]

/-- A payload byte is kept or discarded (R93). -/
theorem State.payloadTaken_capture (s : State) (b : Vector Byte 9) (bs : List Byte) (x : Byte) (e : Env) (o : Out) :
    { s.payloadTaken b bs e o with pos := (s.payloadTaken b bs e o).pos + 1 }.capture x =
      { s.payloadTaken b (bs ++ [x]) e o with prem := (s.payloadTaken b bs e o).prem } := by
  by_cases h7 : (decodeHeader b).type = 0x07#8
  · rw [State.capture_goaway (ga := s.ga) (bs := bs) x h7 (if_pos h7) (if_pos h7)]
    simp only [State.payloadTaken, h7, if_true, List.length_append, List.length_singleton, Nat.add_assoc]
  · rw [State.capture_other x (by exact h7)]
    simp only [State.payloadTaken, h7, if_false, List.length_append, List.length_singleton, Nat.add_assoc]

/-- `prem` counts the payload bytes that are still to come (R16). -/
theorem State.payloadTaken_prem_toNat (s : State) (b : Vector Byte 9) {bs : List Byte} (e : Env) (o : Out)
    (hl : bs.length ≤ (decodeHeader b).length.toNat) :
    (s.payloadTaken b bs e o).prem.toNat = (decodeHeader b).length.toNat - bs.length := by
  have hbs : (BitVec.ofNat 24 bs.length).toNat = bs.length := Nat.mod_eq_of_lt (by omega)
  rw [State.payloadTaken, BitVec.toNat_sub_of_le (by rw [BitVec.le_def, hbs]; exact hl), hbs]

/-- A payload byte before the last (R93). -/
theorem State.payloadTaken_byte (s : State) (b : Vector Byte 9) (bs : List Byte) (x : Byte) (e : Env) (o : Out)
    (hl : bs.length + 1 < (decodeHeader b).length.toNat) :
    (s.payloadTaken b bs e o).afterByte x = s.payloadTaken b (bs ++ [x]) e o := by
  have hp : (s.payloadTaken b bs e o).prem ≠ 1#24 := fun h => by
    have := s.payloadTaken_prem_toNat b e o (bs := bs) (by omega)
    simp [h] at this
    omega
  rw [State.afterByte_payload x rfl hp, State.payloadTaken_capture]
  simp [State.payloadTaken, BitVec.ofNat_add, BitVec.sub_sub]

/-- The last payload byte completes the frame (R93, R94). -/
theorem State.payloadTaken_last (s : State) (b : Vector Byte 9) (bs : List Byte) (x : Byte) (rest : List Input)
    (hl : bs.length + 1 = (decodeHeader b).length.toNat) :
    (s.payloadTaken b bs { s.env with inputs := rest } .quiet).afterByte x =
      (s.afterFrame b (bs ++ [x]) rest).frameComplete (frameDispatch (decodeHeader b)) := by
  have hz : (decodeHeader b).length ≠ 0#24 := fun h => by simp [h] at hl
  have hp : (s.payloadTaken b bs { s.env with inputs := rest } .quiet).prem = 1#24 := by
    apply BitVec.eq_of_toNat_eq
    rw [State.payloadTaken_prem_toNat _ _ _ _ (by omega), ← hl, Nat.add_sub_cancel_left]
    rfl
  rw [State.afterByte_lastPayload x rfl hp, State.payloadTaken_capture,
    State.frameComplete_of_ready (by simp [State.afterFrame, State.rxReady, hz])]
  simp [State.payloadTaken, State.afterFrame, hz, captured_eq_overlaid, Config.hdrBytes, ← hl]

/-! ### A whole frame -/

/-- The first eight bytes of a header, from the frame boundary (R92). -/
theorem reaches_headerTaken {s : State} (hst : s.st = .hdr) (hc : s.hcnt = 0) (v : Vector Byte 8) (rest : List Input)
    (hin : s.env.inputs = v.toList.map .rxByte ++ rest) :
    ∃ o, Reaches 8 s (s.headerTaken v.toList { s.env with inputs := rest } o) := by
  obtain ⟨o, run⟩ := reaches_listedBytes (F := s.headerTaken) (size := 8)
    (fun _ _ _ => (State.rxReady_iff _).mpr (.inl hst)) (fun _ _ _ => rfl) (fun _ _ _ _ => rfl)
    (fun bs b e => State.headerTaken_byte hst bs b e .quiet) s.out v.toList rest (by simp) hin
  rw [State.headerTaken_nil hc, Vector.length_toList] at run
  exact ⟨o, run⟩

/-- All of a payload but its last byte, from the state its header has left (R93). -/
theorem reaches_payloadTaken (s : State) (b : Vector Byte 9) (bs : List Byte) (rest : List Input) (e : Env) (o : Out)
    (hl : bs.length + 1 = (decodeHeader b).length.toNat) (hin : e.inputs = bs.map .rxByte ++ rest) :
    ∃ o', Reaches bs.length (s.payloadTaken b [] e o) (s.payloadTaken b bs { e with inputs := rest } o') :=
  reaches_listedBytes (F := s.payloadTaken b) (size := bs.length)
    (fun _ _ _ => (State.rxReady_iff _).mpr (.inr rfl)) (fun _ _ _ => rfl) (fun _ _ _ _ => rfl)
    (fun read x e h => s.payloadTaken_byte b read x e .quiet (by omega)) o bs rest (Nat.le_refl _) hin

/-- A whole frame at the head of the inputs is completed by its last byte (R92, R93, R94). -/
theorem reaches_frameComplete {s : State} (hst : s.st = .hdr) (hc : s.hcnt = 0) (b : Vector Byte 9) (payload : List Byte)
    (rest : List Input) (hin : s.env.inputs = (b.toList ++ payload).map .rxByte ++ rest)
    (hl : payload.length = (decodeHeader b).length.toNat) :
    Reaches (9 + payload.length) s
      ((s.afterFrame b payload rest).frameComplete (frameDispatch (decodeHeader b))) := by
  obtain ⟨v, x, rfl⟩ := Vector.exists_push (xs := b)
  obtain ⟨o, header⟩ := reaches_headerTaken hst hc v (.rxByte x :: (payload.map .rxByte ++ rest))
    (by simpa [Vector.toList_push] using hin)
  have ready (e : Env) : (s.headerTaken v.toList e o).rxReady = true := (State.rxReady_iff _).mpr (.inl hst)
  obtain rfl | ⟨bs, y, rfl⟩ := payload.eq_nil_or_concat'
  · exact header.byte (ready _) rfl (State.headerTaken_emptyFrame hst v x rest (BitVec.eq_of_toNat_eq hl.symm))
  · have hlast : bs.length + 1 = (decodeHeader (v.push x)).length.toNat := by simpa using hl
    have hz : (decodeHeader (v.push x)).length ≠ 0#24 := fun h => by simp [h] at hlast
    let e : Env := { s.env with inputs := (bs ++ [y]).map .rxByte ++ rest }
    have run := header.byte (ready _) rfl (State.headerTaken_header hst v x e hz)
    obtain ⟨o', payload⟩ := reaches_payloadTaken s (v.push x) bs (.rxByte y :: rest) e _ hlast (by simp [e])
    have frame := (run.trans payload).byte ((State.rxReady_iff _).mpr (.inr rfl)) rfl
      (s.payloadTaken_last (v.push x) bs y rest hlast)
    rw [Nat.add_assoc] at frame
    rwa [List.length_append, List.length_singleton]

/-- Settles O44: the frame is completed by its last byte, and completing it is its instruction. -/
theorem wholeFrameRunsItsInstruction : Obligations.WholeFrameRunsItsInstruction := by
  intro s b payload rest hst hc hin hl
  rw [exec_instrOfHeader]
  exact reaches_frameComplete hst hc b payload rest hin hl

end Sys2Proof.Machine
end

section
/-! PROOFS. The memory spaces: what ENCODE may write and leaves unchanged, that the read loop writes nothing, and which
listed input is taken. -/

namespace Sys2Proof.Machine

/-! ### Which input is taken -/

/-- The first input that satisfies the test is taken out, whatever stands before and behind it. -/
theorem takeFirst_append {p : Input → Bool} {pre : List Input} {i : Input} (post : List Input)
    (hpre : ∀ j ∈ pre, p j = false) (hi : p i = true) : takeFirst p (pre ++ i :: post) = some (i, pre ++ post) := by
  induction pre with
  | nil => exact takeFirst_head hi
  | cons j pre ih =>
    have hj : p j = false := hpre j List.mem_cons_self
    simp [takeFirst, hj, ih fun k hk => hpre k (List.mem_cons_of_mem j hk)]

/-- Settles O40: the first enabled input is a listed one, so a fetch takes that. -/
theorem firstEnabledInputIsTaken : Obligations.FirstEnabledInputIsTaken := by
  intro s pre post i hin hpre hi
  apply fetch_listed
  rw [State.takeListed, hin, takeFirst_append post hpre hi]
  rfl

/-! ### The TX space -/

/-- A read sees TX alone. -/
theorem Memory.readByte_congr {s u : State} (h : u.txlog = s.txlog) (a : Nat) :
    Memory.readByte u a = Memory.readByte s a := by
  rw [Memory.readByte, h, Memory.readByte]

/-- `u` has the TX of `s` with `n` bytes at most appended (R33). -/
def Appends (n : Nat) (s u : State) : Prop := ∃ v, v.length ≤ n ∧ u.txlog = (s.txWrite v).txlog

theorem Appends.of_same {s u : State} (n : Nat) (h : u.txlog = s.txlog) : Appends n s u :=
  ⟨[], n.zero_le, by rw [h, State.txWrite_txlog, List.append_nil]⟩

/-- An append changes no byte that is there already. -/
theorem Appends.readByte_old {n a : Nat} {s u : State} (h : Appends n s u) (ha : a < s.txlog.length) :
    Memory.readByte u a = Memory.readByte s a := by
  obtain ⟨v, -, hv⟩ := h
  rw [Memory.readByte_congr hv, Memory.readByte_txWrite v ha]

/-- Beyond the bytes appended TX is as empty as before. -/
theorem Appends.readByte_beyond {n a : Nat} {s u : State} (h : Appends n s u) (ha : s.txlog.length + n ≤ a) :
    Memory.readByte u a = Memory.readByte s a := by
  obtain ⟨v, hl, hv⟩ := h
  obtain ⟨i, rfl⟩ := Nat.exists_eq_add_of_le (Nat.le_of_add_right_le ha)
  rw [Memory.readByte_congr hv, Memory.readByte_txWrite_new, Memory.readByte, List.getElem?_eq_none (by omega),
    List.getElem?_eq_none (by omega)]

/-- The sink takes no byte that is not offered (R74). -/
theorem State.sinkWrite_appends (s : State) (f : List Byte) : Appends f.length s (s.sinkWrite f).1 := by
  obtain ⟨-, h⟩ | ⟨k, -, h⟩ := s.sinkWrite_cases f <;> rw [h]
  · exact ⟨f, Nat.le_refl _, rfl⟩
  · exact ⟨f.take (k % f.length), List.length_take_le' .., rfl⟩

theorem State.emitFrame_appends (s : State) (hdr : Vector Byte 9) (payload : List Byte) :
    Appends (9 + payload.length) s (s.emitFrame hdr payload) := by
  have h := s.sinkWrite_appends (hdr.toList ++ payload)
  rwa [List.length_append, Vector.length_toList] at h

/-! ### What ENCODE leaves unchanged -/

/-- From `s` to `u` an operation of the encoder has shown `r`, and left the inputs, the supply, the sink's answer and the
strobes of the DSP unit. -/
structure Shows (r : OpResult) (s u : State) : Prop where
  inputs : u.env.inputs = s.env.inputs
  supply : u.env.supply = s.env.supply
  txErr : u.env.txErr = s.env.txErr
  result : u.out.result = some r
  hdrStrobe : u.out.hdrStrobe = s.out.hdrStrobe
  gaStrobe : u.out.gaStrobe = s.out.gaStrobe

theorem State.emitFrame_env (s : State) (hdr : Vector Byte 9) (payload : List Byte) :
    (s.emitFrame hdr payload).env = s.env := by
  obtain ⟨v, hv⟩ := s.sinkWrite_state (hdr.toList ++ payload)
  rw [State.emitFrame, hv]
  rfl

theorem State.emitFrame_out (s : State) (hdr : Vector Byte 9) (payload : List Byte) :
    (s.emitFrame hdr payload).out = { s.out with encDone := true } := by
  obtain ⟨v, hv⟩ := s.sinkWrite_state (hdr.toList ++ payload)
  rw [State.emitFrame, hv]
  rfl

/-- ENCODE, held, refused or accepted, shows ENC.HDR of its operands and appends its frame at most (R73, R74, R123). -/
theorem execEncode_shows {type flags : Byte} {r : Bit} {sid plen : Word32} {payload : List Byte} {s u : State}
    (h : execEncode type flags r sid plen payload s = .next u) :
    Shows (.encHdr (encodeHeader type flags r sid plen)) s u ∧ Appends (9 + plen.toNat) s u := by
  obtain ⟨-, held⟩ | ⟨-, e, -, refused⟩ | ⟨-, hdr, -, ⟨-, starved⟩ | ⟨hl, emitted⟩⟩ :=
    execEncode_cases type flags r sid plen payload s
  · cases h.symm.trans held
    exact ⟨⟨rfl, rfl, rfl, rfl, rfl, rfl⟩, .of_same _ rfl⟩
  · cases h.symm.trans refused
    exact ⟨⟨rfl, rfl, rfl, rfl, rfl, rfl⟩, .of_same _ rfl⟩
  · cases h.symm.trans starved
  · cases h.symm.trans emitted
    constructor
    · constructor <;> simp only [State.emitFrame_env, State.emitFrame_out] <;> rfl
    · obtain ⟨v, hv, htx⟩ := State.emitFrame_appends
        { s.present (.encHdr (encodeHeader type flags r sid plen)) with
          env := { s.env with plPort := (s.env.plPort ++ payload).drop plen.toNat } }
        hdr ((s.env.plPort ++ payload).take plen.toNat)
      rw [List.length_take_of_le hl] at hv
      exact ⟨v, hv, htx⟩

/-- Settles O15: the DSP unit by `execEncode_effect`, the rest by `execEncode_shows`. -/
theorem encodeFrameCondition : Obligations.EncodeFrameCondition := by
  intro t f r sid plen payload s u h
  obtain ⟨⟨inputs, supply, txErr, result, hdrStrobe, gaStrobe⟩, tx⟩ := execEncode_shows h
  exact ⟨(execEncode_effect h).2, inputs, supply, txErr, result, hdrStrobe, gaStrobe, fun _ => tx.readByte_old,
    fun _ => tx.readByte_beyond⟩

/-! ### The read loop and the encoder -/

theorem SameEnc.refl (s : State) : SameEnc s s := by constructor <;> rfl

theorem State.awaitFrame_sameEnc (s : State) : SameEnc s s.awaitFrame := by constructor <;> rfl

theorem State.present_sameEnc (s : State) (r : OpResult) : SameEnc s (s.present r) := by constructor <;> rfl

/-- A frame that completes leaves the encoder to its dispatch (R94). -/
theorem State.frameComplete_sameEnc (s : State) {d : State → State} (hd : ∀ t, SameEnc t (d t)) :
    SameEnc s (s.frameComplete d) := by
  cases hr : s.rxReady with
  | true =>
    rw [State.frameComplete_of_ready hr]
    exact { hd { s with fcnt := s.fcnt + 1#32 } with }
  | false =>
    rw [State.frameComplete_of_not_ready hr]
    exact .refl s

/-- A frame writes neither to TX nor to the encoder's latch, whatever its type (R94 to R105). -/
theorem exec_frame_sameEnc {i : Instr} {h : FrameHeader} {s u : State} (hi : i.header = some h) (he : exec i s = .next u) :
    SameEnc s u := by
  cases i with
  | data l f =>
    cases he
    exact s.frameComplete_sameEnc fun t => (frameDispatch_collected ⟨l, 0x00#8, f, 0, 0⟩ t).enc
  | goaway l f r sid =>
    cases he
    exact s.frameComplete_sameEnc fun t => (frameDispatch_collected ⟨l, 0x07#8, 0, 0, 0⟩ t).enc
  | headers | priority | rstStream | settings | pushPromise | ping | windowUpdate | continuation | unknown0A | unknown0C
  | unknown10 | unknown20 | unknown40 | unknown80 =>
    cases he
    exact s.frameComplete_sameEnc State.awaitFrame_sameEnc
  | encHdr | encode | decode | typeClassify | flagsTrunc | flagsUnion | flagsContains | goawayParse | errcodeDecode | reset
  | start => cases hi

/-- While the loop runs an ENCODE is held, and does no more than show its combinational outputs (R122). -/
theorem execEncode_held {type flags : Byte} {r : Bit} {sid plen : Word32} {payload : List Byte} {s : State}
    (hr : s.rxReady = true) :
    execEncode type flags r sid plen payload s = .next (s.present (.encHdr (encodeHeader type flags r sid plen))) := by
  have he : s.encReady = false := by rw [State.encReady_eq, hr]; rfl
  obtain ⟨-, held⟩ | ⟨ready, -⟩ | ⟨ready, -⟩ := execEncode_cases type flags r sid plen payload s
  · exact held
  · cases he.symm.trans ready
  · cases he.symm.trans ready

/-- While the loop runs no instruction but RESET touches the encoder (R38 c). -/
theorem exec_loop_sameEnc {i : Instr} {s u : State} (hr : s.rxReady = true) (hi : i ≠ .reset) (h : exec i s = .next u) :
    SameEnc s u := by
  cases i with
  | encode t f r sid plen payload =>
    cases h.symm.trans (execEncode_held hr)
    exact s.present_sameEnc _
  | encHdr | decode | typeClassify | flagsTrunc | flagsUnion | flagsContains | goawayParse | errcodeDecode =>
    cases h
    exact s.present_sameEnc _
  | start =>
    cases h
    split
    · exact { SameEnc.refl s with }
    · exact .refl s
  | reset => exact absurd rfl hi
  | data | headers | priority | rstStream | settings | pushPromise | ping | goaway | windowUpdate | continuation | unknown0A
  | unknown0C | unknown10 | unknown20 | unknown40 | unknown80 => exact exec_frame_sameEnc rfl h

/-- Settles O48: TX reads the same where it is the same. -/
theorem loopNeverWritesToTheSink : Obligations.LoopNeverWritesToTheSink := by
  intro i s u hr hi h
  have same := exec_loop_sameEnc hr hi h
  exact ⟨same, Memory.readByte_congr same.txlog⟩

end Sys2Proof.Machine
end

section
/-! PROOFS. The encoding: the header word and its fields, the rows of the type byte, and the decoder against the encoder. -/

namespace Sys2Proof

/-! ### The words and their fields -/

/-- The fields of a header are slices of its word (R51, R52). -/
theorem decodeHeader_headerBytes (w : HeaderWord) :
    decodeHeader (headerBytes w) =
      ⟨w.extractLsb' 48 24, w.extractLsb' 40 8, w.extractLsb' 32 8, w.extractLsb' 31 1, w.extractLsb' 0 31⟩ := by
  have length : be24 (w.extractLsb' 64 8) (w.extractLsb' 56 8) (w.extractLsb' 48 8) = w.extractLsb' 48 24 := by
    simp only [be24, BitVec.extractLsb'_append_extractLsb'_eq_extractLsb']
  have wire : be32 (w.extractLsb' 24 8) (w.extractLsb' 16 8) (w.extractLsb' 8 8) (w.extractLsb' 0 8) =
      w.extractLsb' 0 32 := by
    simp only [be32, BitVec.extractLsb'_append_extractLsb'_eq_extractLsb']
  have reserved : reservedBit (w.extractLsb' 0 32) = w.extractLsb' 31 1 :=
    BitVec.extractLsb'_extractLsb'_of_le (by decide)
  have sid : identifier (w.extractLsb' 0 32) = w.extractLsb' 0 31 := BitVec.extractLsb'_extractLsb'_of_le (by decide)
  rw [← length, ← reserved, ← sid, ← wire]
  rfl

/-- Laid out and decoded again, a header is what it was (R89). -/
theorem decodeHeader_headerWord (h : FrameHeader) : decodeHeader (headerBytes (headerWord h)) = h := by
  rw [decodeHeader_headerBytes, headerWord]
  simp (disch := decide) only [BitVec.extractLsb'_append_eq_of_le, BitVec.extractLsb'_append_eq_right, Nat.reduceSub,
    BitVec.extractLsb'_eq_self]

/-- Decoded and laid out again, a header word is what it was: its fields are all of its bits (R51, R89). -/
theorem headerWord_decodeHeader (w : HeaderWord) : headerWord (decodeHeader (headerBytes w)) = w := by
  rw [decodeHeader_headerBytes]
  simp only [headerWord, BitVec.extractLsb'_append_extractLsb'_eq_extractLsb', BitVec.extractLsb'_eq_self]

/-- The operands of the encoder are slices of their bundle (R60). -/
theorem operandQ_slices (t f : Byte) (r : Bit) (s n : Word32) :
    (operandQ t f r s n).extractLsb' 73 8 = t ∧ (operandQ t f r s n).extractLsb' 65 8 = f ∧
    (operandQ t f r s n).extractLsb' 64 1 = r ∧ (operandQ t f r s n).extractLsb' 32 32 = s ∧
    (operandQ t f r s n).extractLsb' 0 32 = n := by
  rw [operandQ]
  simp (disch := decide) only [BitVec.extractLsb'_append_eq_of_le, BitVec.extractLsb'_append_eq_right, Nat.reduceSub,
    BitVec.extractLsb'_eq_self, and_self]

/-! ### The rows of the type byte -/

/-- The row with this mask and value holds the type codes from `lo` to below `hi` (R53). -/
def RowIsRange (mask value : Byte) (lo hi : Nat) : Prop :=
  ∀ t : Byte, typeInRow mask value t = true ↔ lo ≤ t.toNat ∧ t.toNat < hi

theorem rowIsRange_0A : RowIsRange 0xFE#8 0x0A#8 10 12 := by unfold RowIsRange; decide

theorem rowIsRange_0C : RowIsRange 0xFC#8 0x0C#8 12 16 := by unfold RowIsRange; decide

theorem rowIsRange_10 : RowIsRange 0xF0#8 0x10#8 16 32 := by unfold RowIsRange; decide

theorem rowIsRange_20 : RowIsRange 0xE0#8 0x20#8 32 64 := by unfold RowIsRange; decide

theorem rowIsRange_40 : RowIsRange 0xC0#8 0x40#8 64 128 := by unfold RowIsRange; decide

theorem rowIsRange_80 : RowIsRange 0x80#8 0x80#8 128 256 := by unfold RowIsRange; decide

/-- A type code from 10 on selects the UNKNOWN row in whose range it lies (R53). -/
theorem instrOfHeader_unknown {l : Len} {t f : Byte} {r : Bit} {s : Sid} (ht : 10 ≤ t.toNat) :
    instrOfHeader ⟨l, t, f, r, s⟩ =
      if t.toNat < 12 then .unknown0A t l f r s
      else if t.toNat < 16 then .unknown0C t l f r s
      else if t.toNat < 32 then .unknown10 t l f r s
      else if t.toNat < 64 then .unknown20 t l f r s
      else if t.toNat < 128 then .unknown40 t l f r s
      else .unknown80 t l f r s := by
  have known : ∀ n : Nat, n < 10 → t ≠ BitVec.ofNat 8 n := by
    rintro n hn rfl
    rw [BitVec.toNat_ofNat] at ht
    omega
  rw [instrOfHeader]
  simp only [known 0, known 1, known 2, known 3, known 4, known 5, known 6, known 7, known 8, known 9,
    rowIsRange_0A t, rowIsRange_0C t, rowIsRange_10 t, rowIsRange_20 t, rowIsRange_40 t, Nat.reduceLT, if_false]
  grind

/-- The instruction a header selects stands for that header, and is well formed (R53, R58). -/
theorem instrOfHeader_spec (h : FrameHeader) : (instrOfHeader h).header = some h ∧ (instrOfHeader h).wf = true := by
  obtain ⟨l, t, f, r, s⟩ := h
  by_cases ht : t.toNat < 10
  · obtain ⟨n, hn, rfl⟩ : ∃ n < 10, t = BitVec.ofNat 8 n := ⟨t.toNat, ht, (BitVec.ofNat_toNat 8 t).symm⟩
    interval_cases n <;> exact ⟨rfl, rfl⟩
  · rw [instrOfHeader_unknown (Nat.le_of_not_lt ht)]
    split_ifs <;> refine ⟨rfl, ?_⟩
    · exact (rowIsRange_0A t).mpr (by omega)
    · exact (rowIsRange_0C t).mpr (by omega)
    · exact (rowIsRange_10 t).mpr (by omega)
    · exact (rowIsRange_20 t).mpr (by omega)
    · exact (rowIsRange_40 t).mpr (by omega)
    · exact (rowIsRange_80 t).mpr (by omega)

/-- A well-formed frame is the one its header selects: no two rows share a type code (R53). -/
theorem instrOfHeader_header {i : Instr} {h : FrameHeader} (hi : i.header = some h) (hw : i.wf = true) :
    instrOfHeader h = i := by
  cases i with
  | data | headers | priority | rstStream | settings | pushPromise | ping | goaway | windowUpdate | continuation =>
    cases hi
    rfl
  | unknown0A t =>
    cases hi
    obtain ⟨lo, hi⟩ := (rowIsRange_0A t).mp hw
    rw [instrOfHeader_unknown lo, if_pos hi]
  | unknown0C t =>
    cases hi
    obtain ⟨lo, hi⟩ := (rowIsRange_0C t).mp hw
    rw [instrOfHeader_unknown (by omega), if_neg (by omega), if_pos hi]
  | unknown10 t =>
    cases hi
    obtain ⟨lo, hi⟩ := (rowIsRange_10 t).mp hw
    rw [instrOfHeader_unknown (by omega), if_neg (by omega), if_neg (by omega), if_pos hi]
  | unknown20 t =>
    cases hi
    obtain ⟨lo, hi⟩ := (rowIsRange_20 t).mp hw
    rw [instrOfHeader_unknown (by omega), if_neg (by omega), if_neg (by omega), if_neg (by omega), if_pos hi]
  | unknown40 t =>
    cases hi
    obtain ⟨lo, hi⟩ := (rowIsRange_40 t).mp hw
    rw [instrOfHeader_unknown (by omega), if_neg (by omega), if_neg (by omega), if_neg (by omega), if_neg (by omega),
      if_pos hi]
  | unknown80 t =>
    cases hi
    obtain ⟨lo, -⟩ := (rowIsRange_80 t).mp hw
    rw [instrOfHeader_unknown (by omega), if_neg (by omega), if_neg (by omega), if_neg (by omega), if_neg (by omega),
      if_neg (by omega)]
  | encHdr | encode | decode | typeClassify | flagsTrunc | flagsUnion | flagsContains | goawayParse | errcodeDecode | reset
  | start => cases hi

/-- Settles O4: the known codes by evaluation, the rest by `instrOfHeader_spec` and the ranges of the UNKNOWN rows. -/
theorem typeByteSelectsTheFrame : Obligations.TypeByteSelectsTheFrame := by
  intro l t f r sid
  obtain ⟨header, wf⟩ := instrOfHeader_spec ⟨l, t, f, r, sid⟩
  refine ⟨header, wf, rfl, rfl, rfl, rfl, rfl, rfl, rfl, rfl, rfl, rfl, fun ht => ?_⟩
  rw [instrOfHeader_unknown ht]
  split_ifs <;> simp

/-! ### The decoder against the encoder -/

/-- The word of a frame is the word of its header (R51). -/
theorem encode_frame {i : Instr} {h : FrameHeader} (hi : i.header = some h) : encode i = .frame (headerWord h) := by
  cases i <;> cases hi <;> rfl

/-- The word of an ENC.HDR or ENCODE carries its operands (R60), and any other port's word its own (R61). -/
theorem decode_encode_host {i : Instr} (hi : i.header = none) : decode (encode i) = .ok i := by
  cases i with
  | encHdr t f r s n | encode t f r s n payload =>
    obtain ⟨type, flags, reserved, sid, plen⟩ := operandQ_slices t f r s n
    simp only [encode, decode, decodeHost, type, flags, reserved, sid, plen]
  | flagsUnion a b | flagsContains a b =>
    simp only [encode, decode, decodeHost, BitVec.extractLsb'_append_eq_left, BitVec.extractLsb'_append_eq_right]
  | decode | typeClassify | flagsTrunc | goawayParse | errcodeDecode | reset | start => rfl
  | data | headers | priority | rstStream | settings | pushPromise | ping | goaway | windowUpdate | continuation | unknown0A
  | unknown0C | unknown10 | unknown20 | unknown40 | unknown80 => cases hi

/-- Settles O1: a frame's header comes back from its word and selects the frame; a port's word holds the operands. -/
theorem decodeOfEncodeIsIdentity : Obligations.DecodeOfEncodeIsIdentity := by
  intro i hw
  cases hi : i.header with
  | some h => rw [encode_frame hi, decode, decodeHeader_headerWord, instrOfHeader_header hi hw]
  | none => exact decode_encode_host hi

/-- Settles O2: the instruction is the one the word's header selects, and the header's word is the word. -/
theorem everyHeaderWordDecodesAndReencodes : Obligations.EveryHeaderWordDecodesAndReencodes := by
  intro w
  obtain ⟨header, wf⟩ := instrOfHeader_spec (decodeHeader (headerBytes w))
  exact ⟨_, rfl, wf, by rw [encode_frame header, headerWord_decodeHeader]⟩

/-- Settles O5: the decoder is evaluated on each of the ten words. -/
theorem wordsOfTheSpecDecode : Obligations.WordsOfTheSpecDecode :=
  ⟨rfl, rfl, rfl, rfl, rfl, rfl, rfl, rfl, rfl, rfl⟩

end Sys2Proof
end

section
/-! PROOFS. What stops an instruction, and that a placed word is run by the next step. -/

namespace Sys2Proof.Machine

/-! ### What stops an instruction -/

/-- Everything an instruction can answer: a next state or, for an accepted ENCODE offered too few bytes, the stall (R167). -/
theorem exec_answers (i : Instr) (s : State) :
    (∃ t, exec i s = .next t) ∨
    (exec i s = .fault .payloadStarved ∧ ∃ (t f : Byte) (r : Bit) (sid plen : Word32) (payload : List Byte),
      i = .encode t f r sid plen payload ∧ s.encReady = true ∧ (s.env.plPort ++ payload).length < plen.toNat) := by
  cases i with
  | encode t f r sid plen payload =>
    obtain ⟨-, held⟩ | ⟨-, _, -, refused⟩ | ⟨ready, _, -, ⟨short, starved⟩ | ⟨-, emitted⟩⟩ :=
      execEncode_cases t f r sid plen payload s
    · exact .inl ⟨_, held⟩
    · exact .inl ⟨_, refused⟩
    · exact .inr ⟨starved, t, f, r, sid, plen, payload, rfl, ready, short⟩
    · exact .inl ⟨_, emitted⟩
  | encHdr | decode | typeClassify | flagsTrunc | flagsUnion | flagsContains | goawayParse | errcodeDecode | reset | start =>
    exact .inl ⟨_, rfl⟩
  | data | headers | priority | rstStream | settings | pushPromise | ping | goaway | windowUpdate | continuation | unknown0A
  | unknown0C | unknown10 | unknown20 | unknown40 | unknown80 => exact .inl (exec_frame_next rfl s)

/-- Settles O34: a refusal is neither of the two answers of `exec_answers`, a fault the second. -/
theorem onlyStarvedEncodeStops : Obligations.OnlyStarvedEncodeStops := by
  intro i s
  obtain ⟨t, next⟩ | ⟨stall, why⟩ := exec_answers i s
  · rw [next]
    exact ⟨nofun, nofun⟩
  · rw [stall]
    refine ⟨nofun, ?_⟩
    rintro x ⟨⟩
    exact ⟨rfl, why⟩

/-! ### A placed word -/

/-- Only an ENCODE can find the block not ready for it (R122). -/
theorem State.enabled_request_of_encReady {s : State} (h : s.encReady = true) (w : HostWord) (e : Option Nat) :
    s.enabled (.request w e) = true := by
  cases w with
  | encode => exact h
  | _ => rfl

/-- A placed request is the next input and can be taken: where an ENCODE cannot, the block is put in IDLE (log 4). -/
theorem placeHost_offers (s : State) (w : HostWord) :
    (placeHost s w).env.inputs = .request w none :: s.env.inputs ∧ (placeHost s w).enabled (.request w none) = true := by
  simp only [placeHost]
  split
  case isTrue h => exact ⟨rfl, h⟩
  case isFalse => exact ⟨rfl, State.enabled_request_of_encReady rfl w none⟩

/-- A placed request is the one that is fetched (log 4, R61). -/
theorem fetch_placeHost (s : State) {w : HostWord} {i : Instr} (h : decode (.host w) = .ok i) :
    ∃ u, fetch (placeHost s w) = .run i u := by
  obtain ⟨inputs, enabled⟩ := placeHost_offers s w
  exact ⟨_, by rw [fetch_head inputs enabled, accept_request none h]⟩

/-- A placed frame without payload: its ninth header byte comes next, and completes it (R92). -/
theorem fetch_placeFrame_empty (s : State) {w : HeaderWord} (h : (decodeHeader (headerBytes w)).length = 0#24) :
    ∃ u, fetch (placeFrame s w) = .run (instrOfHeader (decodeHeader (headerBytes w))) u := by
  have bytes : ((headerBytes w).set 8 s.hb[8]).set 8 (headerBytes w)[8] = headerBytes w := by
    rw [Vector.set_set, Vector.set_getElem_self]
  rw [placeFrame, if_pos h, fetch_head rfl rfl, accept_rxByte_hdr _ rfl, headerByte_ninth _ rfl]
  simp only [State.take, bytes, h, if_true]
  exact ⟨_, rfl⟩

/-- A placed frame with a payload: its last payload byte comes next, and completes it (R93). -/
theorem fetch_placeFrame_payload (s : State) {w : HeaderWord} (h : (decodeHeader (headerBytes w)).length ≠ 0#24) :
    ∃ u, fetch (placeFrame s w) = .run (instrOfHeader (decodeHeader (headerBytes w))) u := by
  rw [placeFrame, if_neg h, fetch_head rfl rfl, accept_rxByte_pay _ rfl, payloadByte_last _ rfl]
  exact ⟨_, rfl⟩

/-- A placed word is fetched as the instruction it decodes to (log 4). -/
theorem fetch_placeWord (s : State) {p : InstrWord} {i : Instr} (h : decode p = .ok i) :
    ∃ u, fetch (placeWord s p) = .run i u := by
  cases p with
  | frame w =>
    cases h
    by_cases hl : (decodeHeader (headerBytes w)).length = 0#24
    · exact fetch_placeFrame_empty s hl
    · exact fetch_placeFrame_payload s hl
  | host w => exact fetch_placeHost s h

/-- A table word that decodes is a word of its width that decodes (log 12). -/
theorem decodeTableWord_some {nbits w : Nat} {i : Instr} (h : decodeTableWord nbits w = some i) :
    ∃ p, tableWord nbits w = some p ∧ decode p = .ok i := by
  obtain ⟨p, hp, hd⟩ := Option.bind_eq_some_iff.mp h
  refine ⟨p, hp, ?_⟩
  cases hi : decode p with
  | ok j =>
    rw [hi] at hd
    exact congrArg _ (Option.some.inj hd)
  | error e =>
    rw [hi] at hd
    cases hd

/-- Settles O41: the word is placed as `placeWord` says, and what is fetched runs. -/
theorem placedWordRunsNext : Obligations.PlacedWordRunsNext := by
  intro s nbits w i h
  obtain ⟨p, hp, hd⟩ := decodeTableWord_some h
  obtain ⟨u, hu⟩ := fetch_placeWord s hd
  have placed : s.withFetchWord nbits w = placeWord s p := by rw [State.withFetchWord, hp]
  rw [placed]
  exact ⟨u, hu, step_run hu⟩

end Sys2Proof.Machine
end

section
/-! PROOFS. The encoder: which operands it accepts, the header it lays out for them, and what ENCODE does with it. -/

namespace Sys2Proof.Machine

/-! ### The preconditions -/

/-- The preconditions of EncodeHeader (R71): identifier, length, type. -/
def EncLegal (t : Byte) (sid plen : Word32) : Prop :=
  sid.getLsbD 31 = false ∧ plen.toNat < 2 ^ 24 ∧ t.toNat < 10

/-- The set of violations with the members given: SID_TOP_BIT, LEN_BOUND, TYPE_NOT_ENCODABLE (R71). -/
def violationSet (sidTop lenBound typeBad : Bool) : BitVec 3 :=
  BitVec.ofBool typeBad ++ BitVec.ofBool lenBound ++ BitVec.ofBool sidTop

theorem violationSet_bits (sidTop lenBound typeBad : Bool) :
    (violationSet sidTop lenBound typeBad).getLsbD 0 = sidTop ∧
    (violationSet sidTop lenBound typeBad).getLsbD 1 = lenBound ∧
    (violationSet sidTop lenBound typeBad).getLsbD 2 = typeBad := by
  revert sidTop lenBound typeBad
  decide

theorem violationSet_eq_zero_iff (sidTop lenBound typeBad : Bool) :
    violationSet sidTop lenBound typeBad = 0#3 ↔ sidTop = false ∧ lenBound = false ∧ typeBad = false := by
  revert sidTop lenBound typeBad
  decide

/-- The violations of the operands, in terms of their numbers (R71). -/
theorem encViolations_eq (t : Byte) (sid plen : Word32) :
    encViolations t sid plen =
      violationSet (sid.getLsbD 31) (decide (2 ^ 24 ≤ plen.toNat)) (decide (10 ≤ t.toNat)) := by
  have length : decide (plen.toNat > Config.maxLen) = decide (2 ^ 24 ≤ plen.toNat) :=
    decide_eq_decide.mpr (by rw [Config.maxLen]; omega)
  rw [encViolations, length, BitVec.msb_eq_getLsbD_last]
  rfl

theorem encViolations_eq_zero_iff {t : Byte} {sid plen : Word32} : encViolations t sid plen = 0#3 ↔ EncLegal t sid plen := by
  rw [encViolations_eq, violationSet_eq_zero_iff, decide_eq_false_iff_not, decide_eq_false_iff_not, Nat.not_le, Nat.not_le,
    EncLegal]

theorem not_encLegal_iff {t : Byte} {sid plen : Word32} :
    ¬EncLegal t sid plen ↔ sid.getLsbD 31 = true ∨ 2 ^ 24 ≤ plen.toNat ∨ 10 ≤ t.toNat := by
  rw [EncLegal, not_and_or, not_and_or, Bool.not_eq_false, Nat.not_lt, Nat.not_lt]

/-- Illegal operands are refused with the set of their violations (R71, R72). -/
theorem encodeHeader_refused {t : Byte} {sid plen : Word32} (f : Byte) (r : Bit) (h : ¬EncLegal t sid plen) :
    encodeHeader t f r sid plen = .err (encViolations t sid plen) :=
  if_pos (encViolations_eq_zero_iff.not.mpr h)

/-- The answer to illegal operands, violation by violation (R72). -/
theorem encodeHeader_reports {t : Byte} {sid plen : Word32} (f : Byte) (r : Bit)
    (h : sid.getLsbD 31 = true ∨ 2 ^ 24 ≤ plen.toNat ∨ 10 ≤ t.toNat) :
    ∃ e : BitVec 3, e ≠ 0#3 ∧ e.getLsbD 0 = sid.getLsbD 31 ∧ e.getLsbD 1 = decide (2 ^ 24 ≤ plen.toNat) ∧
      e.getLsbD 2 = decide (10 ≤ t.toNat) ∧ encodeHeader t f r sid plen = .err e := by
  have refused := encodeHeader_refused f r (not_encLegal_iff.mpr h)
  obtain ⟨sidTop, lenBound, typeBad⟩ :=
    violationSet_bits (sid.getLsbD 31) (decide (2 ^ 24 ≤ plen.toNat)) (decide (10 ≤ t.toNat))
  rw [← encViolations_eq] at sidTop lenBound typeBad
  exact ⟨_, encodeHeader_err refused, sidTop, lenBound, typeBad, refused⟩

/-! ### The header bytes -/

/-- Bits 31 to 24 of a word are its reserved bit and the top seven bits of its identifier (R52). -/
theorem extractLsb'_wireTop {n : Nat} (w : BitVec n) :
    w.extractLsb' 24 8 = (w.extractLsb' 31 1 ++ w.extractLsb' 24 7 : Byte) :=
  (BitVec.extractLsb'_append_extractLsb'_eq_extractLsb' (start₁ := 24) (len₁ := 7) (start₂ := 31) (len₂ := 1) rfl).symm

/-- The nine bytes of a header, field by field (R51, R52). -/
theorem headerBytes_headerWord (h : FrameHeader) :
    headerBytes (headerWord h) = #v[h.length.extractLsb' 16 8, h.length.extractLsb' 8 8, h.length.extractLsb' 0 8, h.type,
      h.flags, (h.r ++ h.sid.extractLsb' 24 7 : Byte), h.sid.extractLsb' 16 8, h.sid.extractLsb' 8 8,
      h.sid.extractLsb' 0 8] := by
  rw [headerBytes, headerWord]
  simp (disch := decide) only [extractLsb'_wireTop, BitVec.extractLsb'_append_eq_of_le,
    BitVec.extractLsb'_append_eq_of_add_le, Nat.reduceSub, BitVec.extractLsb'_eq_self]

/-- Any nine bytes are the bytes of some header word (R6). -/
theorem exists_headerBytes (b : Vector Byte 9) : ∃ w, headerBytes w = b := by
  refine ⟨b[0] ++ b[1] ++ b[2] ++ b[3] ++ b[4] ++ b[5] ++ b[6] ++ b[7] ++ b[8], ?_⟩
  rw [headerBytes]
  simp (disch := decide) only [BitVec.extractLsb'_append_eq_of_le, BitVec.extractLsb'_append_eq_right, Nat.reduceSub,
    BitVec.extractLsb'_eq_self]
  ext i hi
  interval_cases i <;> rfl

/-- Decoded and laid out again, nine bytes are what they were (R75, R89). -/
theorem headerBytes_decodeHeader (b : Vector Byte 9) : headerBytes (headerWord (decodeHeader b)) = b := by
  obtain ⟨w, rfl⟩ := exists_headerBytes b
  rw [headerWord_decodeHeader]

/-- The decoded reserved bit is the top bit of byte 5 (R52, R55). -/
theorem decodeHeader_r (b : Vector Byte 9) : (decodeHeader b).r = b[5].extractLsb' 7 1 := by
  change reservedBit (be32 b[5] b[6] b[7] b[8]) = _
  rw [reservedBit, be32]
  simp (disch := decide) only [BitVec.extractLsb'_append_eq_of_le, Nat.reduceSub]

/-! ### EncodeHeader on legal operands -/

/-- The header that the operands of the encoder ask for (R71). -/
def operandHeader (t f : Byte) (r : Bit) (sid plen : Word32) : FrameHeader where
  length := plen.extractLsb' 0 24
  type := t
  flags := f
  r := r
  sid := sid.extractLsb' 0 31

/-- The wire word of the encoder is the reserved bit above the identifier (R71, R76). -/
theorem wireWord_eq (r : Bit) (sid : Word32) :
    (r.setWidth 32 <<< 31) ||| (sid &&& 0x7FFFFFFF#32) = r ++ sid.extractLsb' 0 31 := by
  have mask : (sid.extractLsb' 0 31).setWidth 32 = sid &&& 0x7FFFFFFF#32 := by
    refine BitVec.eq_of_toNat_eq ?_
    rw [BitVec.toNat_and, BitVec.toNat_setWidth_of_le (by decide), BitVec.extractLsb'_toNat]
    exact (Nat.and_two_pow_sub_one_eq_mod _ 31).symm
  rw [← mask, ← BitVec.setWidth_append_eq_shiftLeft_setWidth_or, BitVec.setWidth_eq]

theorem headerBytes_operandHeader (t f : Byte) (r : Bit) (sid plen : Word32) :
    headerBytes (headerWord (operandHeader t f r sid plen)) =
      #v[plen.extractLsb' 16 8, plen.extractLsb' 8 8, plen.extractLsb' 0 8, t, f, (r ++ sid.extractLsb' 24 7 : Byte),
        sid.extractLsb' 16 8, sid.extractLsb' 8 8, sid.extractLsb' 0 8] := by
  rw [headerBytes_headerWord, operandHeader]
  simp (disch := decide) only [BitVec.extractLsb'_extractLsb'_of_le]

/-- Legal operands give the nine bytes of the header they ask for (R71). -/
theorem encodeHeader_accepted {t : Byte} {sid plen : Word32} (f : Byte) (r : Bit) (h : EncLegal t sid plen) :
    encodeHeader t f r sid plen = .ok (headerBytes (headerWord (operandHeader t f r sid plen))) := by
  rw [headerBytes_operandHeader]
  simp (disch := decide) only [encodeHeader, encViolations_eq_zero_iff.mpr h, ne_eq, not_true_eq_false, if_false, wireWord_eq,
    extractLsb'_wireTop, BitVec.extractLsb'_append_eq_of_le, BitVec.extractLsb'_append_eq_of_add_le, Nat.reduceSub,
    BitVec.extractLsb'_eq_self, BitVec.extractLsb'_extractLsb'_of_le]

/-- EncodeHeader succeeds exactly on legal operands, and with the bytes of the header they ask for (R71). -/
theorem encodeHeader_eq_ok_iff {t f : Byte} {r : Bit} {sid plen : Word32} {b : Vector Byte 9} :
    encodeHeader t f r sid plen = .ok b ↔
      EncLegal t sid plen ∧ headerBytes (headerWord (operandHeader t f r sid plen)) = b := by
  by_cases h : EncLegal t sid plen
  · rw [encodeHeader_accepted f r h]
    simp [h]
  · rw [encodeHeader_refused f r h]
    simp [h]

/-- What EncodeHeader lays out decodes to the header its operands ask for (R75). -/
theorem decodeHeader_encodeHeader {t f : Byte} {r : Bit} {sid plen : Word32} {b : Vector Byte 9}
    (h : encodeHeader t f r sid plen = .ok b) : decodeHeader b = operandHeader t f r sid plen := by
  obtain ⟨-, rfl⟩ := encodeHeader_eq_ok_iff.mp h
  exact decodeHeader_headerWord _

/-- A word whose top bit is clear is a number below 2^31. -/
theorem toNat_lt_of_top_clear {w : Word32} (h : w.getLsbD 31 = false) : w.toNat < 2 ^ 31 := by
  have := BitVec.msb_eq_false_iff_two_mul_lt.mp ((BitVec.msb_eq_getLsbD_last w).trans h)
  omega

/-- Legal operands lose no bit in the fields of the header (R75). -/
theorem EncLegal.toNat_eq {t : Byte} {sid plen : Word32} (h : EncLegal t sid plen) :
    (plen.extractLsb' 0 24).toNat = plen.toNat ∧ (sid.extractLsb' 0 31).toNat = sid.toNat := by
  obtain ⟨top, length, -⟩ := h
  exact ⟨Nat.mod_eq_of_lt length, Nat.mod_eq_of_lt (toNat_lt_of_top_clear top)⟩

/-- The fields of a header, widened to operands, ask for that header (R75). -/
theorem operandHeader_setWidth (h : FrameHeader) :
    operandHeader h.type h.flags h.r (h.sid.setWidth 32) (h.length.setWidth 32) = h := by
  simp (disch := decide) only [operandHeader, BitVec.extractLsb'_setWidth_of_le, BitVec.extractLsb'_eq_self]

/-- The fields of a header, widened to operands, violate at most the bound on the type (R75). -/
theorem encViolations_setWidth (h : FrameHeader) :
    encViolations h.type (h.sid.setWidth 32) (h.length.setWidth 32) =
      violationSet false false (decide (10 ≤ h.type.toNat)) := by
  have top : (h.sid.setWidth 32).getLsbD 31 = false := by
    rw [BitVec.getLsbD_setWidth, BitVec.getLsbD_of_ge _ _ (Nat.le_refl 31), Bool.and_false]
  have length : ¬2 ^ 24 ≤ (h.length.setWidth 32).toNat := by
    rw [BitVec.toNat_setWidth_of_le (by decide)]
    exact Nat.not_le.mpr h.length.isLt
  rw [encViolations_eq, top, decide_eq_false length]

/-- A header of a known type re-encodes to its own bytes (R75, R89). -/
theorem encodeHeader_known (h : FrameHeader) (ht : h.type.toNat ≤ 9) :
    encodeHeader h.type h.flags h.r (h.sid.setWidth 32) (h.length.setWidth 32) = .ok (headerBytes (headerWord h)) := by
  have none : encViolations h.type (h.sid.setWidth 32) (h.length.setWidth 32) = 0#3 := by
    rw [encViolations_setWidth, decide_eq_false (Nat.not_le.mpr (Nat.lt_succ_of_le ht))]
    rfl
  rw [encodeHeader_accepted _ _ (encViolations_eq_zero_iff.mp none), operandHeader_setWidth]

/-- A header of an unknown type is refused for its type alone (R75). -/
theorem encodeHeader_unknown (h : FrameHeader) (ht : 10 ≤ h.type.toNat) :
    encodeHeader h.type h.flags h.r (h.sid.setWidth 32) (h.length.setWidth 32) = .err 0b100#3 := by
  have type : encViolations h.type (h.sid.setWidth 32) (h.length.setWidth 32) = 0b100#3 := by
    rw [encViolations_setWidth, decide_eq_true ht]
    rfl
  rw [encodeHeader_refused _ _ (encViolations_eq_zero_iff.not.mp (by rw [type]; decide)), type]

/-! ### ENC.HDR -/

/-- Settles O6: the bytes of the header that the operands ask for. -/
theorem encHdrGivesTheHeaderBytes : Obligations.EncHdrGivesTheHeaderBytes := by
  intro t f r sid plen s top length type
  rw [← headerBytes_operandHeader, ← encodeHeader_accepted f r ⟨top, length, type⟩]
  rfl

/-- Settles O7: the set that `encodeHeader_reports` describes is what is presented. -/
theorem encHdrReportsEveryViolation : Obligations.EncHdrReportsEveryViolation := by
  intro t f r sid plen s h
  obtain ⟨e, nonempty, sidTop, lenBound, typeBad, refused⟩ := encodeHeader_reports f r h
  exact ⟨e, nonempty, sidTop, lenBound, typeBad, by rw [← refused]; rfl⟩

/-- A type below 10 is known (R82). -/
theorem classifyType_known {t : Byte} (h : t.toNat < 10) : (classifyType t).known = true := by
  rw [classifyType, if_pos (show t.toNat < Config.nKnownTypes from h)]

/-- Settles O8: one way by `decodeHeader_encodeHeader`, the other by what a decoded header re-encodes to. -/
theorem encodeDecodeRoundTripLaw : Obligations.EncodeDecodeRoundTripLaw := by
  refine ⟨fun t f r sid plen b h => ?_, fun b hb => ?_, fun b hb => encodeHeader_unknown (decodeHeader b) hb⟩
  · obtain ⟨legal, -⟩ := encodeHeader_eq_ok_iff.mp h
    obtain ⟨length, identifier⟩ := legal.toNat_eq
    obtain ⟨-, -, type⟩ := legal
    rw [decodeHeader_encodeHeader h]
    exact ⟨rfl, length, rfl, classifyType_known type, rfl, rfl, rfl, identifier⟩
  · rw [encodeHeader_known (decodeHeader b) hb, headerBytes_decodeHeader]

/-- Settles O9: the top bit of the operand is the violation SID_TOP_BIT, and that of byte 5 is the decoded reserved bit. -/
theorem reservedBitIsIsolated : Obligations.ReservedBitIsIsolated := by
  refine fun t f r sid plen => ⟨fun top => ?_, fun b h => ?_⟩
  · obtain ⟨e, -, sidTop, -, -, refused⟩ := encodeHeader_reports (t := t) (plen := plen) f r (.inl top)
    exact ⟨e, refused, sidTop.trans top⟩
  · obtain ⟨legal, -⟩ := encodeHeader_eq_ok_iff.mp h
    obtain ⟨-, identifier⟩ := legal.toNat_eq
    obtain ⟨top, -, -⟩ := legal
    rw [← decodeHeader_r, decodeHeader_encodeHeader h]
    exact ⟨rfl, identifier, toNat_lt_of_top_clear top⟩

/-! ### ENCODE -/

/-- A sink that does not fail takes all it is offered (R73). -/
theorem State.sinkWrite_taken {s : State} (f : List Byte) (h : s.env.txErr = none) : s.sinkWrite f = (s.txWrite f, true) := by
  rw [State.sinkWrite, h]

/-- A sink that fails with a draw `k` that R74 admits takes the first `k` bytes. -/
theorem State.sinkWrite_failed {s : State} {f : List Byte} {k : Nat} (h : s.env.txErr = some k) (hk : k < f.length) :
    s.sinkWrite f = (s.txWrite (f.take k), false) := by
  have nonempty : f.isEmpty = false := List.isEmpty_eq_false_iff.mpr (List.ne_nil_of_length_pos (Nat.zero_lt_of_lt hk))
  rw [State.sinkWrite, h]
  simp only [Nat.mod_eq_of_lt hk, nonempty]

theorem State.emitFrame_taken {s : State} (hdr : Vector Byte 9) (payload : List Byte) (h : s.env.txErr = none) :
    s.emitFrame hdr payload = (s.txWrite (hdr.toList ++ payload)).encComplete .ok 0#3 := by
  rw [State.emitFrame, State.sinkWrite_taken _ h]
  rfl

theorem State.emitFrame_failed {s : State} (hdr : Vector Byte 9) (payload : List Byte) {k : Nat} (h : s.env.txErr = some k)
    (hk : k < (hdr.toList ++ payload).length) :
    s.emitFrame hdr payload = (s.txWrite ((hdr.toList ++ payload).take k)).encComplete .ioFailure 0#3 := by
  rw [State.emitFrame, State.sinkWrite_failed h hk]
  rfl

section
variable {t f : Byte} {r : Bit} {sid plen : Word32} {payload : List Byte} {s : State}

/-- An accepted ENCODE of illegal operands (R72, R73). -/
theorem exec_encode_refused {e : BitVec 3} (ready : s.encReady = true) (h : encodeHeader t f r sid plen = .err e) :
    exec (.encode t f r sid plen payload) s = .next ((s.present (.encHdr (.err e))).encComplete .precondition e) := by
  obtain ⟨held, -⟩ | ⟨-, e', err, refused⟩ | ⟨-, hdr, ok, -⟩ := execEncode_cases t f r sid plen payload s
  · cases ready.symm.trans held
  · cases h.symm.trans err
    rw [← h]
    exact refused
  · cases h.symm.trans ok

/-- An accepted ENCODE of legal operands, offered its payload (R73, R167). -/
theorem exec_encode_accepted {hdr : Vector Byte 9} (ready : s.encReady = true) (h : encodeHeader t f r sid plen = .ok hdr)
    (hl : plen.toNat ≤ (s.env.plPort ++ payload).length) :
    exec (.encode t f r sid plen payload) s =
      .next ({ s.present (.encHdr (.ok hdr)) with
        env := { s.env with plPort := (s.env.plPort ++ payload).drop plen.toNat } }.emitFrame hdr
          ((s.env.plPort ++ payload).take plen.toNat)) := by
  obtain ⟨held, -⟩ | ⟨-, e, err, -⟩ | ⟨-, hdr', ok, ⟨short, -⟩ | ⟨-, emitted⟩⟩ :=
    execEncode_cases t f r sid plen payload s
  · cases ready.symm.trans held
  · cases h.symm.trans err
  · exact absurd hl (Nat.not_le.mpr short)
  · cases h.symm.trans ok
    rw [← h]
    exact emitted

end

/-- Settles O10: the payload is all that is offered, and the sink takes the frame whole. -/
theorem encodeAppendsHeaderAndPayload : Obligations.EncodeAppendsHeaderAndPayload := by
  intro t f r sid plen payload s ready top length type hp port sink hdr
  have ok : encodeHeader t f r sid plen = .ok hdr := by
    rw [encodeHeader_accepted f r ⟨top, length, type⟩, headerBytes_operandHeader]
  have offered : s.env.plPort ++ payload = payload := by rw [port, List.nil_append]
  have drained : { s.env with plPort := [] } = s.env := by rw [← port]
  have size : (hdr.toList ++ payload).length = 9 + plen.toNat := by rw [List.length_append, Vector.length_toList, hp]
  rw [exec_encode_accepted ready ok (by rw [offered, hp]), offered, List.take_of_length_le hp.le,
    List.drop_of_length_le hp.le, drained, State.emitFrame_taken hdr payload, State.txWrite, size, ← List.append_assoc]
  · rfl
  · exact sink

/-- Settles O11: the set that `encodeHeader_reports` describes is latched and presented. -/
theorem encodeRefusalWritesNothing : Obligations.EncodeRefusalWritesNothing := by
  intro t f r sid plen payload s ready h
  obtain ⟨e, nonempty, sidTop, lenBound, typeBad, refused⟩ := encodeHeader_reports f r h
  exact ⟨e, nonempty, sidTop, lenBound, typeBad, exec_encode_refused ready refused⟩

/-- Settles O12: the frame that is offered has `9 + enc_plen` bytes, so the draw `k` is the number of them taken. -/
theorem encodeSinkFailureLeavesPrefix : Obligations.EncodeSinkFailureLeavesPrefix := by
  intro t f r sid plen payload s hdr k ready ok hl sink hk
  have size : (hdr.toList ++ (s.env.plPort ++ payload).take plen.toNat).length = 9 + plen.toNat := by
    rw [List.length_append, Vector.length_toList, List.length_take_of_le hl]
  rw [← size] at hk
  rw [exec_encode_accepted ready ok hl, State.emitFrame_failed hdr _ _ hk, State.txWrite, List.length_take_of_le hk.le]
  · rfl
  · exact sink

/-! ### The combinational operations -/

/-- A combinational operation does nothing but present a result (R10, R71, R81 to R88). -/
theorem exec_combinational {t f : Byte} {r : Bit} {sid plen : Word32} {w : HeaderWord} {a b : Byte} {g : GoawayWord}
    {e : Word32} {i : Instr} (hi : i ∈ [Instr.encHdr t f r sid plen, .decode w, .typeClassify a, .flagsTrunc a,
      .flagsUnion a b, .flagsContains a b, .goawayParse g, .errcodeDecode e]) (s : State) :
    ∃ o, exec i s = .next (s.present o) := by
  simp only [List.mem_cons, List.not_mem_nil, or_false] at hi
  obtain rfl | rfl | rfl | rfl | rfl | rfl | rfl | rfl := hi <;> exact ⟨_, rfl⟩

theorem State.present_sameDsp (s : State) (o : OpResult) : SameDsp s (s.present o) := by constructor <;> rfl

/-- Settles O21: presenting a result changes the result port alone. -/
theorem combinationalOpsTouchNoRegister : Obligations.CombinationalOpsTouchNoRegister := by
  intro t f r sid plen w a b g e s i hi
  obtain ⟨o, answer⟩ := exec_combinational hi s
  exact ⟨_, answer, s.present_sameDsp o, s.present_sameEnc o, rfl, nofun, rfl, rfl, rfl, Memory.readByte_congr rfl⟩

end Sys2Proof.Machine
end

section
/-! PROOFS. The decoder: DECODE and the header bytes, the flag and type operations, and the GOAWAY payload with the frame that
carries it. -/

namespace Sys2Proof.Machine

/-! ### Slices -/

/-- A slice of a slice is a slice, wherever the outer one begins. -/
theorem extractLsb'_extractLsb'_add {v i j m n : Nat} (x : BitVec v) (h : j + n ≤ m) :
    (x.extractLsb' i m).extractLsb' j n = x.extractLsb' (i + j) n := by
  ext k hk
  rw [BitVec.getElem_extractLsb', BitVec.getElem_extractLsb', BitVec.getLsbD_extractLsb',
    decide_eq_true (by omega), Bool.true_and, Nat.add_assoc]

/-- Four bytes that follow each other in a word are its 32 bits there (R52). -/
theorem be32_slices {n : Nat} (w : BitVec n) (i : Nat) :
    be32 (w.extractLsb' (i + 24) 8) (w.extractLsb' (i + 16) 8) (w.extractLsb' (i + 8) 8) (w.extractLsb' i 8) =
      w.extractLsb' i 32 := by
  simp only [be32, BitVec.extractLsb'_append_extractLsb'_eq_extractLsb']

/-- The reserved bit of 32 bits of a word is the highest of them (R52, R55). -/
theorem reservedBit_slice {n : Nat} (w : BitVec n) (i : Nat) : reservedBit (w.extractLsb' i 32) = w.extractLsb' (i + 31) 1 :=
  extractLsb'_extractLsb'_add w (by decide)

/-- The identifier in 32 bits of a word is all of them but the highest (R52). -/
theorem identifier_slice {n : Nat} (w : BitVec n) (i : Nat) : identifier (w.extractLsb' i 32) = w.extractLsb' i 31 :=
  extractLsb'_extractLsb'_add w (by decide)

/-! ### The header -/

/-- Settles O3: the two round trips, and EncodeHeader on a header of a known type. -/
theorem decodeHeaderIsBijection : Obligations.DecodeHeaderIsBijection :=
  ⟨decodeHeader_headerWord, headerBytes_decodeHeader, encodeHeader_known⟩

/-! ### Types, flags and error codes -/

/-- The known types are 0 to 9, each with its own code as its kind (R82). -/
theorem classifyType_eq (t : Byte) :
    classifyType t =
      if t.toNat ≤ 9 then { known := true, kind := t.extractLsb' 0 4 } else { known := false, kind := 0xF#4 } :=
  if_congr Nat.lt_succ_iff rfl rfl

/-- The known error codes are 0 to 0xd (R87). -/
theorem errcodeDecode_eq (e : Word32) : errcodeDecode e = decide (e.toNat ≤ 0xd) := decide_eq_decide.mpr Nat.lt_succ_iff

/-- A flag of one bit is contained exactly when that bit is set (R85). -/
theorem flagsContains_twoPow (v : Byte) {i : Nat} (hi : i < 8) : flagsContains v (BitVec.twoPow 8 i) = v.getLsbD i := by
  have nonzero : BitVec.twoPow 8 i ≠ 0#8 := fun h => by simpa [hi] using congrArg (·.getLsbD i) h
  rw [flagsContains, BitVec.and_twoPow]
  cases v.getLsbD i with
  | true => exact beq_self_eq_true _
  | false => exact beq_false_of_ne nonzero.symm

/-- END_HEADERS is bit 2 of the flags (R54, R85). -/
theorem flagsContains_endHeaders (v : Byte) : flagsContains v Config.flagEndHeaders = v.getLsbD 2 :=
  flagsContains_twoPow v (i := 2) (by decide)

/-- Settles O17: the verdict and the kind of a type are those of `classifyType_eq`. -/
theorem typeClassifyIsTotal : Obligations.TypeClassifyIsTotal := by
  intro t s
  rw [← classifyType_eq]
  rfl

/-- Settles O18: the test of a named flag is the test of its bit. -/
theorem flagOperations : Obligations.FlagOperations := by
  intro a b s
  rw [← flagsContains_endStream, ← flagsContains_endHeaders]
  exact ⟨rfl, rfl, rfl, rfl, rfl⟩

/-- Settles O20: the verdict on an error code is that of `errcodeDecode_eq`. -/
theorem errcodeDecodeTestsTheWholeValue : Obligations.ErrcodeDecodeTestsTheWholeValue := by
  intro e s
  rw [← errcodeDecode_eq]
  rfl

/-! ### DECODE -/

/-- DECODE's results, read from the bits of the header word (R81). -/
theorem decodedOf_headerBytes (w : HeaderWord) :
    decodedOf (decodeHeader (headerBytes w)) =
      { header :=
          { length := w.extractLsb' 48 24, type := w.extractLsb' 40 8, flags := w.extractLsb' 32 8,
            r := w.extractLsb' 31 1, sid := w.extractLsb' 0 31 }
        typeClass :=
          if (w.extractLsb' 40 8).toNat ≤ 9 then { known := true, kind := w.extractLsb' 40 4 }
          else { known := false, kind := 0xF#4 }
        flagsKnown := w.extractLsb' 32 8 &&& 0x05#8
        endStream := w.getLsbD 32
        endHeaders := w.getLsbD 34 } := by
  have kind : (w.extractLsb' 40 8).extractLsb' 0 4 = w.extractLsb' 40 4 := extractLsb'_extractLsb'_add w (by decide)
  have flag (i : Nat) (hi : i < 8) : (w.extractLsb' 32 8).getLsbD i = w.getLsbD (32 + i) := by
    rw [BitVec.getLsbD_extractLsb', decide_eq_true hi, Bool.true_and]
  rw [decodeHeader_headerBytes, decodedOf, classifyType_eq, kind, flagsContains_endStream, flagsContains_endHeaders,
    flag 0 (by decide), flag 2 (by decide)]
  rfl

/-- Settles O16: DECODE presents what `decodedOf_headerBytes` reads from the word. -/
theorem decodeSplitsTheHeaderWord : Obligations.DecodeSplitsTheHeaderWord := by
  intro w s
  rw [← decodedOf_headerBytes]
  rfl

/-! ### The GOAWAY payload -/

/-- The reserved bit of four bytes is the top bit of the first (R52, R55). -/
theorem reservedBit_be32 (b0 b1 b2 b3 : Byte) : reservedBit (be32 b0 b1 b2 b3) = b0.extractLsb' 7 1 := by
  rw [reservedBit, be32]
  simp (disch := decide) only [BitVec.extractLsb'_append_eq_of_le, Nat.reduceSub]

/-- The identifier of four bytes is the rest of them (R52). -/
theorem identifier_be32 (b0 b1 b2 b3 : Byte) :
    identifier (be32 b0 b1 b2 b3) = (b0.extractLsb' 0 7 ++ b1 ++ b2 ++ b3 : Sid) := by
  simp only [identifier, be32, ← BitVec.setWidth_eq_extractLsb', Nat.reduceLeDiff, Nat.reduceSub, BitVec.setWidth_append,
    dite_false, BitVec.cast_eq]

/-- The fields of a GOAWAY payload, byte by byte (R56, R86). -/
theorem goawayParse_eq (p : Vector Byte 8) :
    goawayParse p =
      { r := p[0].extractLsb' 7 1
        lastSid := (p[0].extractLsb' 0 7 ++ p[1] ++ p[2] ++ p[3] : Sid)
        errRaw := p[4] ++ p[5] ++ p[6] ++ p[7]
        errKnown := decide ((p[4] ++ p[5] ++ p[6] ++ p[7] : Word32).toNat ≤ 0xd) } := by
  rw [← errcodeDecode_eq, ← identifier_be32, ← reservedBit_be32]
  rfl

/-- The fields of a GOAWAY payload, read from the bits of its word (R56, R86). -/
theorem goawayParse_goawayBytes (g : GoawayWord) :
    goawayParse (goawayBytes g) =
      { r := g.extractLsb' 63 1, lastSid := g.extractLsb' 32 31, errRaw := g.extractLsb' 0 32,
        errKnown := decide ((g.extractLsb' 0 32).toNat ≤ 0xd) } := by
  rw [← errcodeDecode_eq, ← reservedBit_slice g 32, ← identifier_slice, ← be32_slices, ← be32_slices]
  rfl

/-- Settles O19: GOAWAY.PARSE presents what `goawayParse_goawayBytes` reads from the word. -/
theorem goawayParseSplitsThePayload : Obligations.GoawayParseSplitsThePayload := by
  intro g s
  rw [← goawayParse_goawayBytes]
  rfl

/-! ### The GOAWAY frame -/

/-- A GOAWAY of eight bytes or more that completes in the read loop is counted, parsed, and ends the run (R94, R102). -/
theorem exec_goaway_parsed {l : Len} (f : Byte) (r : Bit) (sid : Sid) {s : State} (hr : s.rxReady = true) (hl : 8 ≤ l.toNat) :
    exec (.goaway l f r sid) s =
      .next (({ s with fcnt := s.fcnt + 1#32 }.latchGoaway (goawayParse s.ga)).terminate .goaway) := by
  change Host.Outcome.next (s.frameComplete (dispatchGoaway l)) = _
  rw [State.frameComplete_of_ready hr, dispatchGoaway, if_pos (show l.toNat ≥ Config.goawayMin from hl)]

/-- Settles O24: the state of `exec_goaway_parsed`, with the fields of `goawayParse_eq`. -/
theorem goawayFrameIsParsedAndEndsTheRun : Obligations.GoawayFrameIsParsedAndEndsTheRun := by
  intro l f r sid s hr hl last err
  rw [exec_goaway_parsed f r sid hr hl, goawayParse_eq, List.append_cons]
  rfl

end Sys2Proof.Machine
end

section
/-! PROOFS. The frames: what each does when it completes, what it leaves unchanged, and which fields of its header it reads. -/

namespace Sys2Proof.Machine

/-! ### What a frame does -/

/-- A well-formed frame instruction is `FrameComplete` with the dispatch of its header (R94). -/
theorem exec_wellFormed_frame {i : Instr} {h : FrameHeader} (hi : i.header = some h) (hw : i.wf = true) (s : State) :
    exec i s = .next (s.frameComplete (frameDispatch h)) := by
  rw [← instrOfHeader_header hi hw, exec_instrOfHeader]

/-- Settles O22: the fourteen rows have one and the same meaning. -/
theorem otherFramesAreCountedAndTheLoopGoesOn : Obligations.OtherFramesAreCountedAndTheLoopGoesOn := by
  intro t l f r sid s hr i hi
  have meaning : exec i s = .next (s.frameComplete State.awaitFrame) := by
    simp only [List.mem_cons, List.not_mem_nil, or_false] at hi
    obtain rfl | rfl | rfl | rfl | rfl | rfl | rfl | rfl | rfl | rfl | rfl | rfl | rfl | rfl := hi <;> rfl
  rw [meaning, State.frameComplete_of_ready hr]
  rfl

/-- Settles O23: Dispatch_DATA tests END_STREAM, bit 0 of the flags. -/
theorem dataFrameEndsTheRunOnEndStream : Obligations.DataFrameEndsTheRunOnEndStream := by
  intro l f r sid s hr
  have meaning : exec (.data l f r sid) s = .next (dispatchData f { s with fcnt := s.fcnt + 1#32 }) :=
    congrArg _ (State.frameComplete_of_ready hr _)
  rw [meaning, dispatchData, flagsContains_endStream]
  exact ⟨fun set => by rw [if_pos set]; rfl, fun clear => by rw [if_neg (Bool.eq_false_iff.mp clear)]; rfl⟩

/-- Settles O25: below eight bytes Dispatch_GOAWAY is the fault entry. -/
theorem shortGoawayTakesTheFault : Obligations.ShortGoawayTakesTheFault := by
  intro l f r sid s hr hl
  have meaning : exec (.goaway l f r sid) s = .next (dispatchGoaway l { s with fcnt := s.fcnt + 1#32 }) :=
    congrArg _ (State.frameComplete_of_ready hr _)
  rw [meaning, dispatchGoaway, if_neg (show ¬l.toNat ≥ Config.goawayMin from Nat.not_le_of_lt hl)]
  rfl

/-- Settles O26: `FrameComplete` does nothing where the loop does not run. -/
theorem framesDoNothingOutsideTheLoop : Obligations.FramesDoNothingOutsideTheLoop := by
  intro h s hr
  rw [exec_instrOfHeader, State.frameComplete_of_not_ready hr]

/-! ### What a frame leaves unchanged -/

theorem SameFrameRegs.refl (s : State) : SameFrameRegs s s := by constructor <;> rfl

/-- No dispatch writes a register a frame is collected in (R95, R102). -/
theorem frameDispatch_sameFrameRegs (h : FrameHeader) (s : State) : SameFrameRegs s (frameDispatch h s) := by
  obtain ⟨-, -, e⟩ | ⟨-, -, e⟩ | ⟨-, -, -, e⟩ | ⟨-, -, e⟩ := frameDispatch_cases h s <;> rw [e] <;> constructor <;> rfl

/-- Only a GOAWAY writes the GOAWAY registers, takes a fault or raises a strobe (R102, R142). -/
theorem frameDispatch_of_ne_goaway {h : FrameHeader} (h7 : h.type ≠ 0x07#8) (s : State) :
    SameGoaway s (frameDispatch h s) ∧ (frameDispatch h s).faultCause = s.faultCause ∧
      (frameDispatch h s).hcnt = s.hcnt ∧ (frameDispatch h s).out = s.out := by
  obtain ⟨h7', -⟩ | ⟨h7', -⟩ | ⟨-, -, -, e⟩ | ⟨-, -, e⟩ := frameDispatch_cases h s
  · exact absurd h7' h7
  · exact absurd h7' h7
  all_goals
    rw [e]
    exact ⟨by constructor <;> rfl, rfl, rfl, rfl⟩

/-- A frame of any type but DATA and GOAWAY only lets the loop go on (R96 to R101, R103 to R105). -/
theorem frameDispatch_other {h : FrameHeader} (h7 : h.type ≠ 0x07#8) (h0 : h.type ≠ 0x00#8) (s : State) :
    frameDispatch h s = s.awaitFrame := by
  rw [frameDispatch, if_neg h7, if_neg h0]

/-- Settles O27: a frame outside the loop changes nothing; in it the count of frames, and what its dispatch writes. -/
theorem frameInstructionsFrameCondition : Obligations.FrameInstructionsFrameCondition := by
  intro i h s u hi hw he
  rw [exec_wellFormed_frame hi hw] at he
  cases he
  cases hr : s.rxReady with
  | false =>
    rw [State.frameComplete_of_not_ready hr]
    exact ⟨.refl s, .refl s, rfl, fun _ => rfl, fun _ => ⟨.refl s, rfl, rfl, rfl⟩, fun _ _ => ⟨rfl, rfl⟩⟩
  | true =>
    rw [State.frameComplete_of_ready hr]
    have collected := frameDispatch_collected h { s with fcnt := s.fcnt + 1#32 }
    refine ⟨{ frameDispatch_sameFrameRegs h _ with }, { collected.enc with }, collected.env,
      Memory.readByte_congr collected.enc.txlog, fun h7 => ?_, fun h7 h0 => ?_⟩
    · obtain ⟨goaway, fault, hcnt, out⟩ := frameDispatch_of_ne_goaway h7 { s with fcnt := s.fcnt + 1#32 }
      exact ⟨{ goaway with }, fault, hcnt, out⟩
    · rw [frameDispatch_other h7 h0]
      exact ⟨rfl, rfl⟩

/-! ### What a dispatch reads -/

/-- The dispatch is chosen by the type, and beside it reads bit 0 of the flags on DATA and the length on GOAWAY (R106). -/
theorem frameDispatch_congr {h k : FrameHeader} (type : h.type = k.type)
    (flags : h.type = 0x00#8 → h.flags.getLsbD 0 = k.flags.getLsbD 0) (length : h.type = 0x07#8 → h.length = k.length) :
    frameDispatch h = frameDispatch k := by
  unfold frameDispatch
  rw [← type]
  by_cases h7 : h.type = 0x07#8
  · rw [if_pos h7, if_pos h7, length h7]
  · rw [if_neg h7, if_neg h7]
    by_cases h0 : h.type = 0x00#8
    · funext s
      rw [if_pos h0, if_pos h0, dispatchData, dispatchData, flagsContains_endStream, flagsContains_endStream, flags h0]
    · rw [if_neg h0, if_neg h0]

/-- Settles O28: the header reaches the meaning of a frame through its dispatch alone. -/
theorem dispatchIgnoresTheOtherFields : Obligations.DispatchIgnoresTheOtherFields := by
  intro h k s type flags length
  rw [exec_instrOfHeader, exec_instrOfHeader, frameDispatch_congr type flags length]

end Sys2Proof.Machine
end

section
/-! PROOFS. DONE and FAULT, which only a RESET leaves. -/

namespace Sys2Proof.Machine

theorem State.runOver_iff (s : State) : s.runOver = true ↔ s.st = .done ∨ s.st = .fault := by
  cases h : s.st <;> simp [State.runOver, h]

theorem State.st_ne_idle_of_runOver {s : State} (h : s.runOver = true) : s.st ≠ .idle := by
  obtain hst | hst := s.runOver_iff.mp h <;> simp [hst]

theorem State.not_rxReady_of_runOver {s : State} (h : s.runOver = true) : s.rxReady = false := by
  obtain hst | hst := s.runOver_iff.mp h <;> simp [State.rxReady, hst]

/-- Settles O32: no frame completes there, START is ignored, and the operations of the ports write no DSP register. -/
theorem terminalStatesAbsorbInstructions : Obligations.TerminalStatesAbsorbInstructions := by
  intro i s u ended hi h
  cases i with
  | data | headers | priority | rstStream | settings | pushPromise | ping | goaway | windowUpdate | continuation | unknown0A
  | unknown0C | unknown10 | unknown20 | unknown40 | unknown80 =>
    cases h
    rw [State.frameComplete_of_not_ready (State.not_rxReady_of_runOver ended)]
    exact .refl s
  | encHdr | decode | typeClassify | flagsTrunc | flagsUnion | flagsContains | goawayParse | errcodeDecode =>
    cases h
    exact s.present_sameDsp _
  | encode => exact (execEncode_effect h).2
  | reset => exact absurd rfl hi
  | start =>
    cases h
    rw [if_neg (State.st_ne_idle_of_runOver ended)]
    exact .refl s

/-- Settles O33: of what a step can do to the DSP unit, START needs IDLE, and a byte and an error need the loop. -/
theorem terminalStatesAbsorbSteps : Obligations.TerminalStatesAbsorbSteps := by
  intro s u ended h
  have notReady := State.not_rxReady_of_runOver ended
  obtain hr | ⟨-, dsp⟩ := step_effect h
  · exact .inr hr
  · cases dsp with
    | unchanged same => exact .inl same
    | started idle => exact absurd idle (State.st_ne_idle_of_runOver ended)
    | byte ready => cases notReady.symm.trans ready
    | error ready => cases notReady.symm.trans ready

end Sys2Proof.Machine
end

section
/-! PROOFS. One step on the RX port: a header byte, a payload byte, an error, and the wait where no input can be taken. -/

namespace Sys2Proof.Machine

/-! ### A byte at the head of the inputs -/

section
variable {s : State} {b : Byte} {rest : List Input}

/-- In HDR the step is the header byte step, with the frame it completes (R92). -/
theorem step_headerByte (hst : s.st = .hdr) (hin : s.env.inputs = .rxByte b :: rest) :
    step s = (headerByte (s.take rest) b).fetched.outcome s := by
  rw [step_eq_outcome, fetch_head hin (s.rxReady_iff.mpr (.inl hst)), accept_rxByte_hdr b (by exact hst)]

/-- In PAY the step is the payload byte step, with the frame it completes (R93). -/
theorem step_payloadByte (hst : s.st = .pay) (hin : s.env.inputs = .rxByte b :: rest) :
    step s = (payloadByte (s.take rest) b).fetched.outcome s := by
  rw [step_eq_outcome, fetch_head hin (s.rxReady_iff.mpr (.inr hst)), accept_rxByte_pay b (by exact hst)]

/-- The ninth header byte of a frame without payload runs the frame's instruction (R92, R94). -/
theorem step_emptyFrame (hst : s.st = .hdr) (hin : s.env.inputs = .rxByte b :: rest) (hc : s.hcnt = 8)
    (hl : (decodeHeader (s.hb.set 8 b)).length = 0#24) :
    step s = exec (instrOfHeader (decodeHeader (s.hb.set 8 b)))
      ({ s.take rest with hb := s.hb.set 8 b, pos := s.pos + 1 }.latchHeader (decodeHeader (s.hb.set 8 b))) := by
  rw [step_headerByte hst hin, headerByte_ninth b (by exact hc)]
  simp only [State.take, hl, if_true]
  rfl

/-- The last payload byte runs the frame's instruction (R93, R94). -/
theorem step_lastPayloadByte (hst : s.st = .pay) (hin : s.env.inputs = .rxByte b :: rest) (hp : s.prem = 1#24) :
    step s = exec (instrOfHeader s.h) { { s.take rest with pos := s.pos + 1 }.capture b with prem := 0#24 } := by
  rw [step_payloadByte hst hin, payloadByte_last b (by exact hp)]
  rfl

end

/-- Settles O35: a request runs what its word decodes to, a byte the frame it completes. -/
theorem stepRunsTheDecodedInstruction : Obligations.StepRunsTheDecodedInstruction := by
  refine ⟨fun s w e rest i hin he hd => ?request, fun s b rest h hin hst hc hh hl => ?emptyFrame,
    fun s b rest hin hst hp => ?payload⟩
  case request => exact step_run ((fetch_head hin he).trans (accept_request e hd))
  case emptyFrame =>
    subst hh
    exact step_emptyFrame hst hin hc hl
  case payload => exact step_lastPayloadByte hst hin hp

/-- Settles O36: the cases of `headerByte_collect` and `headerByte_ninth`. -/
theorem headerByteStep : Obligations.HeaderByteStep := by
  intro s b rest hst hin
  refine ⟨fun hc => ?_, fun hc => ⟨step_emptyFrame hst hin hc, fun hl => ?_⟩⟩
  · rw [step_headerByte hst hin, headerByte_collect b (by exact hc)]
    rfl
  · rw [step_headerByte hst hin, headerByte_ninth b (by exact hc)]
    simp only [State.take, hl, if_false]
    rfl

/-! ### The payload and its capture -/

/-- Capture as the two registers it writes, each under the condition of R93. -/
theorem State.capture_eq (s : State) (b : Byte) :
    let keep := s.h.type = 0x07#8 ∧ s.gcnt.val < 8
    s.capture b =
      { s with
        ga := if hk : keep then s.ga.set s.gcnt.val b hk.2 else s.ga
        gcnt := if keep then s.gcnt + 1 else s.gcnt } := by
  intro keep
  by_cases h7 : s.h.type = 0x07#8
  · by_cases hg : s.gcnt.val < 8 <;> simp [State.capture, keep, h7, hg]
  · simp [State.capture, keep, h7]

/-- Settles O37: the cases of `payloadByte_last` and `payloadByte_more`, with `State.capture_eq`. -/
theorem payloadByteStep : Obligations.PayloadByteStep := by
  intro s b rest hst hin
  refine ⟨fun hp => ?_, fun hp => ?_⟩
  · rw [step_lastPayloadByte hst hin hp, State.capture_eq]
    rfl
  · rw [step_payloadByte hst hin, payloadByte_more b (by exact hp), State.capture_eq]
    rfl

/-- A byte that is not kept changes nothing (R93). -/
theorem State.capture_discarded {s : State} (h : s.h.type ≠ 0x07#8 ∨ s.gcnt = 8) (b : Byte) : s.capture b = s := by
  obtain h7 | hg := h
  · exact State.capture_other b h7
  · simp [State.capture, hg]

/-- Where the payload byte is not kept, its value is lost (R93). -/
theorem State.afterByte_discarded {s : State} (hst : s.st = .pay) (h : s.h.type ≠ 0x07#8 ∨ s.gcnt = 8) (b c : Byte) :
    s.afterByte b = s.afterByte c := by
  have same : State.capture { s with pos := s.pos + 1 } b = State.capture { s with pos := s.pos + 1 } c :=
    (State.capture_discarded (by exact h) b).trans (State.capture_discarded (by exact h) c).symm
  by_cases hp : s.prem = 1#24
  · rw [State.afterByte_lastPayload b hst hp, State.afterByte_lastPayload c hst hp, same]
  · rw [State.afterByte_payload b hst hp, State.afterByte_payload c hst hp, same]

/-- Settles O49: both steps take the byte, and `State.afterByte_discarded` holds of the state it is taken in. -/
theorem discardedPayloadDoesNotInfluence : Obligations.DiscardedPayloadDoesNotInfluence := by
  intro s b c rest hst h
  have ready : s.rxReady = true := s.rxReady_iff.mpr (.inr hst)
  rw [step_listedByte (by exact ready) rfl, step_listedByte (by exact ready) rfl]
  exact congrArg _ (State.afterByte_discarded (s := s.take rest) hst h b c)

/-! ### What a step leaves among the inputs -/

theorem State.frameComplete_env (s : State) {d : State → State} (hd : ∀ t, (d t).env = t.env) :
    (s.frameComplete d).env = s.env := by
  cases hr : s.rxReady with
  | true => rw [State.frameComplete_of_ready hr, hd]
  | false => rw [State.frameComplete_of_not_ready hr]

/-- No instruction takes an input; the step that runs it does (log 2). -/
theorem exec_inputs {i : Instr} {s u : State} (h : exec i s = .next u) : u.env.inputs = s.env.inputs := by
  cases i with
  | data l f =>
    cases h
    exact congrArg _ (s.frameComplete_env fun t => (frameDispatch_collected ⟨l, 0x00#8, f, 0, 0⟩ t).env)
  | goaway l =>
    cases h
    exact congrArg _ (s.frameComplete_env fun t => (frameDispatch_collected ⟨l, 0x07#8, 0, 0, 0⟩ t).env)
  | headers | priority | rstStream | settings | pushPromise | ping | windowUpdate | continuation | unknown0A | unknown0C
  | unknown10 | unknown20 | unknown40 | unknown80 =>
    cases h
    exact congrArg _ (s.frameComplete_env fun _ => rfl)
  | encode => exact (execEncode_shows h).1.inputs
  | encHdr | decode | typeClassify | flagsTrunc | flagsUnion | flagsContains | goawayParse | errcodeDecode | reset =>
    cases h
    rfl
  | start =>
    cases h
    split <;> rfl

theorem State.writePreface_inputs (s : State) (e : Option Nat) : (s.writePreface e).env.inputs = s.env.inputs := by
  obtain ⟨v, hv⟩ := State.sinkWrite_state { s with env := { s.env with txErr := e } } Config.preface
  rw [State.writePreface, hv]
  rfl

/-- Once an input of a port other than RX is out of the list, the rest of the list stays (log 2, log 27). -/
theorem accept_keeps_inputs {s t u : State} {j : Input} (hj : onRx j = false) (h : (accept t j).outcome s = .next u) :
    t.env.inputs.Sublist u.env.inputs := by
  cases j with
  | rxByte | rxErr | rxErrByte => cases hj
  | request w e =>
    cases hd : decode (.host w) with
    | ok i =>
      rw [accept_request e hd] at h
      exact (exec_inputs h).symm ▸ .refl _
    | error =>
      simp only [accept, hd] at h
      cases h
      exact .refl _
  | preface e =>
    cases h
    exact (t.writePreface_inputs e).symm ▸ .refl _
  | resetWith =>
    cases h
    exact List.sublist_append_right ..

/-- The inputs on the RX port are enabled together (R91). -/
theorem State.enabled_of_onRx (s : State) {i : Input} (hi : onRx i = true) : s.enabled i = s.rxReady := by
  cases i with
  | rxByte | rxErr | rxErrByte => rfl
  | request | preface | resetWith => cases hi

theorem Offers.inputs_sublist {s t : State} (h : Offers s t) : s.env.inputs.Sublist t.env.inputs := by
  obtain rfl | hd := h
  · exact .refl _
  · obtain ⟨i, _, -, rfl⟩ := State.drawn_some hd
    exact List.sublist_append_left ..

/-- Outside the loop no step takes an RX input (R91, R108). -/
theorem step_count_rxInputs {s u : State} (hr : s.rxReady = false) (h : step s = .next u) {i : Input} (hi : onRx i = true) :
    s.env.inputs.count i ≤ u.env.inputs.count i := by
  rw [step_eq_outcome] at h
  obtain hf | ⟨t, hd, hf⟩ | ⟨t, before, after, j, ho, hl, he, hf⟩ := fetch_cases s <;> rw [hf] at h
  · cases h
    exact le_rfl
  · cases h
    exact (Offers.inputs_sublist (.inr hd)).count_le i
  · have hj : onRx j = false := by
      by_contra hj
      obtain ⟨e, rfl⟩ := ho.env
      rw [State.enabled_env, s.enabled_of_onRx (Bool.not_eq_false _ ▸ hj), hr] at he
      cases he
    have ne : j ≠ i := by
      rintro rfl
      cases hi.symm.trans hj
    calc s.env.inputs.count i ≤ t.env.inputs.count i := ho.inputs_sublist.count_le i
      _ = (before ++ after).count i := by rw [hl, List.count_append, List.count_cons_of_ne ne, List.count_append]
      _ ≤ u.env.inputs.count i := (accept_keeps_inputs hj h).count_le i

/-! ### Errors and waiting -/

/-- Where no input can be taken and none is supplied, a step changes nothing (R111). -/
theorem step_waits {s : State} (hl : ∀ i ∈ s.env.inputs, s.enabled i = false) (hd : s.env.supply.draw = none) :
    step s = .next s :=
  step_wait (fetch_wait (State.takeListed_none hl) (State.drawn_none hd))

/-- Settles O38: in the loop `rx_err` is the fault entry; outside it no RX input is enabled. -/
theorem rxErrorTakesTheTransportFault : Obligations.RxErrorTakesTheTransportFault := by
  intro s b rest
  refine ⟨fun hr hin => ?_, fun hr hin => ?_, fun hr u h i => step_count_rxInputs hr h,
    fun hr hrx => step_waits fun i hi => ?_⟩
  · rw [step_eq_outcome, fetch_head hin (by exact hr), accept, rxError_of_ready (by exact hr)]
    rfl
  · rw [step_eq_outcome, fetch_head hin (by exact hr), accept, rxError_of_ready (by exact hr)]
    rfl
  · rw [s.enabled_of_onRx (hrx i hi), hr]

/-- Settles O39: a step that waits answers its own state, so any number of them does. -/
theorem blockWaitsWithoutBound : Obligations.BlockWaitsWithoutBound := by
  intro s n hl hd
  induction n with
  | zero => rfl
  | succ n ih => exact (coreRun_succ (step_waits hl hd) n).trans ih

end Sys2Proof.Machine
end

section
/-! PROOFS. The control commands and the host: START, RESET with another event, the ENCODE that waits while the loop runs,
and the outbound sequence. -/

namespace Sys2Proof.Machine

/-! ### The commands -/

/-- Settles O31: the two branches of START. -/
theorem startBeginsTheLoopOnlyInIdle : Obligations.StartBeginsTheLoopOnlyInIdle := fun _ =>
  ⟨fun idle => congrArg _ (if_pos idle), fun running => congrArg _ (if_neg running)⟩

/-- Settles O55: a RESET at the head of the inputs can always be taken, and runs once what came with it is offered again. -/
theorem resetWinsOverAnything : Obligations.ResetWinsOverAnything := fun _ _ _ hin =>
  ⟨step_run (fetch_head hin rfl), fun _ => rfl, fun _ => rfl, rfl, fun _ _ _ => rfl⟩

/-! ### The ENCODE that waits -/

/-- Only the ENCODE port asks for an ENCODE (R61). -/
theorem decode_host_eq_encode {w : HostWord} {t f : Byte} {r : Bit} {sid plen : Word32} {payload : List Byte}
    (h : decode (.host w) = .ok (.encode t f r sid plen payload)) : ∃ q, w = .encode q payload := by
  cases w with
  | encode q =>
    cases h
    exact ⟨q, rfl⟩
  | rst | start =>
    simp only [decode, decodeHost] at h
    split at h <;> cases h
  | encHdr | decode | typeClassify | flagsTrunc | flagsUnion | flagsContains | goawayParse | errcodeDecode => cases h

/-- Only a request on the ENCODE port makes the block run an ENCODE: the bytes of RX complete frames (R58, R61). -/
theorem accept_eq_run_encode {s u : State} {j : Input} {t f : Byte} {r : Bit} {sid plen : Word32} {payload : List Byte}
    (h : accept s j = .run (.encode t f r sid plen payload) u) : ∃ q e, j = .request (.encode q payload) e := by
  cases j with
  | rxByte b =>
    simp only [accept] at h
    cases hc : (rxByte s b).complete with
    | none =>
      rw [hc] at h
      cases h
    | some x =>
      rw [hc] at h
      obtain ⟨frame, -⟩ := instrOfHeader_spec x
      rw [(Fetched.run.inj h).1] at frame
      cases frame
  | request w e =>
    cases hd : decode (.host w) with
    | ok i =>
      rw [accept_request e hd] at h
      cases h
      obtain ⟨q, rfl⟩ := decode_host_eq_encode hd
      exact ⟨q, e, rfl⟩
    | error =>
      simp only [accept, hd] at h
      cases h
  | rxErr | rxErrByte | preface | resetWith => cases h

/-- While `enc_ready` is low no ENCODE is fetched: its request is not enabled (R122). -/
theorem fetch_ne_run_encode {s : State} (hs : s.encReady = false) (t f : Byte) (r : Bit) (sid plen : Word32)
    (payload : List Byte) (u : State) : fetch s ≠ .run (.encode t f r sid plen payload) u := by
  intro h
  obtain hf | ⟨v, -, hf⟩ | ⟨v, before, after, j, ho, -, he, hf⟩ := fetch_cases s
  · cases h.symm.trans hf
  · cases h.symm.trans hf
  · obtain ⟨q, e, rfl⟩ := accept_eq_run_encode (hf.symm.trans h)
    obtain ⟨env, rfl⟩ := ho.env
    cases hs.symm.trans he

/-- Once an enabled input is out of the list, the rest of the list stays, whatever its port (log 2, log 9, log 27). -/
theorem accept_enabled_keeps_inputs {s t u : State} {j : Input} {rest : List Input} (he : t.enabled j = true)
    (h : (accept (t.take rest) j).outcome s = .next u) : rest.Sublist u.env.inputs := by
  cases j with
  | rxByte b =>
    rw [outcome_rxByte] at h
    cases h
    exact (State.afterByte_collected (s := t.take rest) b he).env ▸ .refl _
  | rxErr =>
    rw [accept, rxError_of_ready (by exact he)] at h
    cases h
    exact .refl _
  | rxErrByte b =>
    rw [accept, rxError_of_ready (by exact he)] at h
    cases h
    exact List.sublist_cons_self ..
  | request | preface | resetWith => exact accept_keeps_inputs rfl h

/-- Everything a step can do to the inputs: leave them all, or take one out that is enabled; others may be added. -/
theorem step_inputs {s u : State} (h : step s = .next u) :
    s.env.inputs.Sublist u.env.inputs ∨
    ∃ (before after : List Input) (j : Input), s.enabled j = true ∧ s.env.inputs.Sublist (before ++ j :: after) ∧
      (before ++ after).Sublist u.env.inputs := by
  rw [step_eq_outcome] at h
  obtain hf | ⟨t, hd, hf⟩ | ⟨t, before, after, j, ho, hl, he, hf⟩ := fetch_cases s <;> rw [hf] at h
  · cases h
    exact .inl (.refl _)
  · cases h
    exact .inl (Offers.inputs_sublist (.inr hd))
  · have hs : s.enabled j = true := by
      obtain ⟨e, rfl⟩ := ho.env
      rwa [State.enabled_env] at he
    exact .inr ⟨before, after, j, hs, hl ▸ ho.inputs_sublist, accept_enabled_keeps_inputs he h⟩

/-- No step takes an input that is not enabled (R91, R122). -/
theorem step_count_of_not_enabled {s u : State} {i : Input} (hi : s.enabled i = false) (h : step s = .next u) :
    s.env.inputs.count i ≤ u.env.inputs.count i := by
  obtain kept | ⟨before, after, j, hj, offered, kept⟩ := step_inputs h
  · exact kept.count_le i
  · have ne : j ≠ i := by
      rintro rfl
      cases hi.symm.trans hj
    calc s.env.inputs.count i ≤ (before ++ j :: after).count i := offered.count_le i
      _ = (before ++ after).count i := by rw [List.count_append, List.count_cons_of_ne ne, List.count_append]
      _ ≤ u.env.inputs.count i := kept.count_le i

/-- Settles O13: `enc_ready` is the complement of `rx_ready`, and a request for ENCODE is enabled exactly with `enc_ready`. -/
theorem encodeWaitsWhileTheLoopRuns : Obligations.EncodeWaitsWhileTheLoopRuns := by
  intro s
  have low : s.encReady = false ↔ s.rxReady = true := by rw [State.encReady_eq, Bool.not_eq_false']
  exact ⟨low.trans s.rxReady_iff, fun hs _ _ _ _ _ _ => execEncode_held (low.mp hs), fetch_ne_run_encode,
    fun hs _ _ _ _ => step_count_of_not_enabled hs⟩

/-! ### The outbound sequence -/

/-- Before the loop begins: `bytes` are in TX, the payload port is empty, and `inputs` are what the host goes on to do
(R125). -/
structure Outbound (bytes : List Byte) (inputs : List Input) (s : State) : Prop where
  st : s.st = .idle
  pos : s.pos = 0
  txlog : s.txlog = bytes
  txPos : s.txPos = bytes.length
  inputs : s.env.inputs = inputs
  plPort : s.env.plPort = []

section
variable {bytes : List Byte} {rest : List Input} {s : State}

/-- The host's preface goes into TX (R124). -/
theorem Outbound.preface (h : Outbound bytes (.preface none :: rest) s) :
    ∃ u, step s = .next u ∧ Outbound (bytes ++ Config.preface) rest u := by
  obtain ⟨st, pos, txlog, txPos, inputs, plPort⟩ := h
  refine ⟨_, step_moved (fetch_head inputs rfl), ?_⟩
  rw [State.writePreface, State.sinkWrite_taken _ rfl]
  exact ⟨st, pos, congrArg (· ++ _) txlog, txPos ▸ List.length_append.symm, rfl, plPort⟩

/-- A request with legal operands and a payload of the length it asks for goes into TX as its frame (R73). -/
theorem Outbound.encodeRequest {t f : Byte} {sid : Word32} {payload : List Byte}
    (h : Outbound bytes (encodeRequest t f 0 sid payload :: rest) s)
    (legal : EncLegal t sid (BitVec.ofNat 32 payload.length)) (hp : payload.length < 2 ^ 32) :
    ∃ u, step s = .next u ∧ u.encStatus = .ok ∧ Outbound (bytes ++
      ((headerBytes (headerWord (operandHeader t f 0 sid (BitVec.ofNat 32 payload.length)))).toList ++ payload)) rest u := by
  obtain ⟨st, pos, txlog, txPos, inputs, plPort⟩ := h
  obtain ⟨top, length, type⟩ := legal
  have plen : payload.length = (BitVec.ofNat 32 payload.length).toNat := (Nat.mod_eq_of_lt hp).symm
  have ready : s.encReady = true := by rw [State.encReady, st]; rfl
  obtain ⟨runs, -⟩ := stepRunsTheDecodedInstruction
  rw [runs s _ none rest _ inputs ready (decode_encode_host (i := .encode t f 0 sid _ payload) rfl),
    encodeAppendsHeaderAndPayload t f 0 sid _ payload _ (by exact ready) top length type plen (by exact plPort) rfl,
    headerBytes_operandHeader]
  refine ⟨_, rfl, rfl, st, pos, ?_, ?_, rfl, plPort⟩
  · simp [txlog]
  · rw [List.length_append, List.length_append, Vector.length_toList, ← plen]
    exact congrArg (· + _) txPos

/-- START begins the loop (R121). -/
theorem Outbound.start (h : Outbound bytes (.request (.start 1) none :: rest) s) :
    ∃ u, step s = .next u ∧ u.st = .hdr ∧ u.pos = 0 ∧ u.encStatus = s.encStatus ∧ u.txlog = bytes ∧
      u.txPos = bytes.length := by
  obtain ⟨st, pos, txlog, txPos, inputs, -⟩ := h
  obtain ⟨begins, -⟩ := startBeginsTheLoopOnlyInIdle
    { s with env := { s.env with inputs := rest, txErr := none }, out := .quiet }
  exact ⟨_, (step_run (fetch_head inputs rfl)).trans (begins st), rfl, pos, rfl, txlog, txPos⟩

end

/-- Below an identifier's clear top bit the reserved bit 0 changes nothing (R52). -/
theorem zero_append_wireTop {sid : Word32} (top : sid.getLsbD 31 = false) :
    ((0 : Bit) ++ sid.extractLsb' 24 7 : Byte) = sid.extractLsb' 24 8 := by
  have reserved : sid.extractLsb' 31 1 = 0 := by
    refine BitVec.eq_of_toNat_eq ?_
    rw [BitVec.extractLsb'_toNat, Nat.shiftRight_eq_zero _ _ (toNat_lt_of_top_clear top)]
    rfl
  rw [extractLsb'_wireTop, reserved]

/-- Settles O52: the four steps of `Outbound` from reset, and the header bytes of both frames. -/
theorem outboundSequenceFillsTheSink : Obligations.OutboundSequenceFillsTheSink := by
  intro fs fh sid supply top
  have sent : Outbound [] (outboundSequence fs fh sid)
      { State.reset with env := { State.reset.env with inputs := outboundSequence fs fh sid, supply := supply } } :=
    ⟨rfl, rfl, rfl, rfl, rfl, rfl⟩
  obtain ⟨s₁, step₁, sent⟩ := sent.preface
  obtain ⟨s₂, step₂, -, sent⟩ := sent.encodeRequest ⟨rfl, by decide, by decide⟩ (by decide)
  obtain ⟨s₃, step₃, status, sent⟩ := sent.encodeRequest ⟨top, by decide, by decide⟩ (by decide)
  obtain ⟨s₄, step₄, st, pos, kept, txlog, txPos⟩ := sent.start
  have run : Reaches 4 _ s₄ := ((((Reaches.refl s₄).step step₄).step step₃).step step₂).step step₁
  refine ⟨s₄, run, st, kept.trans status, txPos, pos, txlog.trans ?_⟩
  rw [headerBytes_operandHeader, headerBytes_operandHeader, zero_append_wireTop top]
  rfl

end Sys2Proof.Machine
end

section
/-! PROOFS. The payload port: what an accepted ENCODE takes from it, and the stall where it offers too little. -/

namespace Sys2Proof.Machine

/-- An accepted ENCODE of legal operands, offered too few bytes, stalls (R167; log 7). -/
theorem exec_encode_starved {t f : Byte} {r : Bit} {sid plen : Word32} {payload : List Byte} {s : State} {hdr : Vector Byte 9}
    (ready : s.encReady = true) (h : encodeHeader t f r sid plen = .ok hdr)
    (short : (s.env.plPort ++ payload).length < plen.toNat) :
    exec (.encode t f r sid plen payload) s = .fault .payloadStarved := by
  obtain ⟨held, -⟩ | ⟨-, e, err, -⟩ | ⟨-, -, -, ⟨-, starved⟩ | ⟨enough, -⟩⟩ := execEncode_cases t f r sid plen payload s
  · cases ready.symm.trans held
  · cases h.symm.trans err
  · exact starved
  · exact absurd enough (Nat.not_le.mpr short)

/-- Settles O14: too few bytes stall ENCODE; with enough of them the sink takes the frame whole, and the surplus is left. -/
theorem encodeForwardsExactlyPlenBytes : Obligations.EncodeForwardsExactlyPlenBytes := by
  intro t f r sid plen payload s hdr ready ok
  refine ⟨exec_encode_starved ready ok, fun enough sink => ⟨_, exec_encode_accepted ready ok enough, ?_⟩⟩
  rw [State.emitFrame_taken hdr _ (by exact sink)]
  exact ⟨rfl, rfl⟩

end Sys2Proof.Machine
end
